-- ==== Sys2Proof/Word.lean ====
section
/-! DEFINITION. The plain numbers of the JK-680: instants, radio numbers, channels, phases and group slots
(00_scope.md, Conventions). The manual's quantities are whole numbers and software sees none of them as a word of
bits, so they are natural numbers; a channel, a phase and a slot are indexes into the eight channel lines, the eight
phases and the 40 slots. -/

namespace Sys2Proof

/-- An instant or a duration, in milliseconds (00_scope.md, "Time"). -/
abbrev Instant := Nat

/-- A radio number: 1 to 16,777,214; 0 stands for "none" (00_scope.md, "Radio numbers"). -/
abbrev Radio := Nat

/-- A channel, 0 to 7 (00_scope.md, "Slots, channels and phases"). -/
abbrev Chan := Fin 8

/-- A phase, 0 to 7 (00_scope.md, "Slots, channels and phases"). -/
abbrev Phase := Fin 8

/-- A group slot, 0 to 39 (00_scope.md, "Slots, channels and phases"). -/
abbrev SlotId := Fin 40

/-- A standing pairing, 0 to 7 (R30). -/
abbrev PairingId := Fin 8

/-- The channel broadcast address (00_scope.md, "Radio numbers"). -/
def broadcast : Radio := 16777215

/-- Every channel, in order. -/
def channels : List Chan := List.finRange 8

/-- Every phase, in order. -/
def phases : List Phase := List.finRange 8

/-- Every slot, in slot order. -/
def slotIds : List SlotId := List.finRange 40

/-- Every standing pairing, in order. -/
def pairingIds : List PairingId := List.finRange 8

end Sys2Proof
end

