-- ==== Sys2Proof/Syntax.lean ====
section
/-! DEFINITION. The commands of the JK-680: one constructor for each row of spec/opcode_table.json, with the row's
operands. Every command carries first the instant (ms) at which it is taken, since the manual states timers as
durations from named events and the table has no row for the passing of time (notes/assumptions/1.md). A command of the
host port carries next the number of bytes that its transaction clocked (R183). Fields of the line and port records
stand as the numbers that the record carries (11_line_and_port_formats.md); Machine/Operands.lean reads them. -/

namespace Sys2Proof

/-- Byte 0 of an uplink record (R199's record): PASS or FAIL of the modem's integrity check. -/
inductive Integrity where
  | pass
  | fail
  deriving DecidableEq, Repr

/-- The uplink frame record of 11_line_and_port_formats.md ("Channel line records"). Every field is present in every
record; a field that the frame's kind does not use is not read. -/
structure UplinkFrame where
  /-- byte 0 -/
  integrity : Integrity
  /-- whether byte 5 names an uplink kind (the one of the command's row); R13 discards a record whose kind is none -/
  kindListed : Bool
  /-- byte 1, the received level -/
  level : Nat
  /-- bytes 2-4, the sender radio -/
  sender : Radio
  /-- byte 6, the declared kind's code -/
  declared : Nat
  /-- byte 7, the motion's code -/
  motion : Nat
  /-- bytes 8-9 -/
  speed : Nat
  /-- bytes 10-11 -/
  odometer : Nat
  /-- byte 12, the order kind's code -/
  orderKind : Nat
  /-- byte 13 -/
  argument : Nat
  /-- byte 14 -/
  sequence : Nat
  /-- bytes 15-17, the named radio -/
  named : Radio
  /-- byte 18, the call number -/
  call : Nat
  deriving DecidableEq, Repr

/-- The mark of a LEVEL report (R165). -/
inductive LevelMark where
  | clear
  | receiving
  deriving DecidableEq, Repr

/-- A LEVEL report's mark, and the instant of the noise-sample request that the report answers, which is the model's own
operand (notes/assumptions/30.md). -/
structure LevelAnswer where
  mark : LevelMark
  requested : Instant
  deriving DecidableEq, Repr

/-- The two area stop lines (R91). -/
inductive AreaLine where
  | lineA
  | lineB
  deriving DecidableEq, Repr

/-- A group named by a selector byte and a number byte (11_line_and_port_formats.md, "Host port frames"). -/
structure GroupField where
  selector : Nat
  number : Nat
  deriving DecidableEq, Repr

/-- The arguments of OPEN (code 9). -/
structure OpenArgs where
  call : Nat
  loco : Radio
  leader : Radio
  channel : Nat
  area : Nat
  wagon : Nat
  gate : Nat
  deriving DecidableEq, Repr

/-- The arguments of SET-CHANNEL (code 18), in the order of the table of R194. -/
structure SetChannelArgs where
  channel : Nat
  mask : Nat
  jamOn : Nat
  jamOff : Nat
  blank : Nat
  survey : Nat
  answerWindow : Nat
  talkWindow : Nat
  floor : Nat
  defaultArea : Nat
  period : Nat
  mode : Nat
  deriving DecidableEq, Repr

/-- The arguments of SET-DEVICE (code 19), in the order of the table of R195. -/
structure SetDeviceArgs where
  mask : Nat
  warn : Nat
  regExpiry : Nat
  joinTimeout : Nat
  ackTimeout : Nat
  moveWindow : Nat
  bandShift : Nat
  easeTol : Nat
  haltExcess : Nat
  silence : Nat
  startup : Nat
  policy : Nat
  deriving DecidableEq, Repr

/-- The arguments of SET-PAIRING (code 21). -/
structure SetPairingArgs where
  index : Nat
  call : Nat
  loco : Radio
  leader : Radio
  channel : Nat
  area : Nat
  deriving DecidableEq, Repr

/-- One constructor per row of spec/opcode_table.json, in the table's order. -/
inductive Instr where
  -- uplink frames: the instant, the channel line they arrive on, the record
  | checkIn (t : Instant) (ch : Chan) (f : UplinkFrame)
  | answer (t : Instant) (ch : Chan) (f : UplinkFrame)
  | statusFrame (t : Instant) (ch : Chan) (f : UplinkFrame)
  | order (t : Instant) (ch : Chan) (f : UplinkFrame)
  | orderAck (t : Instant) (ch : Chan) (f : UplinkFrame)
  | haltAck (t : Instant) (ch : Chan) (f : UplinkFrame)
  | attachAck (t : Instant) (ch : Chan) (f : UplinkFrame)
  | releaseAck (t : Instant) (ch : Chan) (f : UplinkFrame)
  | talkReq (t : Instant) (ch : Chan) (f : UplinkFrame)
  | talkEnd (t : Instant) (ch : Chan) (f : UplinkFrame)
  | join (t : Instant) (ch : Chan) (f : UplinkFrame)
  | admitFrame (t : Instant) (ch : Chan) (f : UplinkFrame)
  | refuse (t : Instant) (ch : Chan) (f : UplinkFrame)
  | leave (t : Instant) (ch : Chan) (f : UplinkFrame)
  | hand (t : Instant) (ch : Chan) (f : UplinkFrame)
  | resume (t : Instant) (ch : Chan) (f : UplinkFrame)
  | disbandFrame (t : Instant) (ch : Chan) (f : UplinkFrame)
  -- modem reports
  | txDone (t : Instant) (ch : Chan)
  | txRefused (t : Instant) (ch : Chan)
  | ready (t : Instant) (ch : Chan)
  | notReady (t : Instant) (ch : Chan)
  | levelReport (t : Instant) (ch : Chan) (level : Nat) (answer : LevelAnswer)
  -- instants and timers
  | phaseInstant (t : Instant) (ch : Chan) (p : Phase)
  | cycleStart (t : Instant) (ch : Chan) (periodFirst : Bool)
  | answerWindowExpiry (t : Instant) (i : SlotId)
  | registrationExpiry (t : Instant) (r : Radio)
  | joinTimeout (t : Instant) (i : SlotId)
  | attachTimeout (t : Instant) (i : SlotId)
  | releaseTimeout (t : Instant) (i : SlotId)
  | orderTimeout (t : Instant) (i : SlotId)
  | talkWindowExpiry (t : Instant) (ch : Chan)
  | moveWindowExpiry (t : Instant) (i : SlotId)
  | startupTimerExpiry (t : Instant)
  | hostSilenceExpiry (t : Instant)
  | storeCompletion (t : Instant)
  | samplingMoment (t : Instant) (ch : Chan)
  | sampleDeadline (t : Instant) (ch : Chan)
  -- lines and resets; a reset carries the levels present on AREA-A and AREA-B (true: asserted)
  | areaAsserted (t : Instant) (l : AreaLine)
  | areaReleased (t : Instant) (l : AreaLine)
  | powerReset (t : Instant) (a b : Bool)
  | lineReset (t : Instant) (a b : Bool)
  -- host port transactions: the instant, the bytes clocked, the arguments
  | fillerTransaction (t : Instant) (n : Nat)
  | malformedFrame (t : Instant) (n : Nat) (code stated : Nat)
  | beginOperate (t : Instant) (n : Nat)
  | reconnect (t : Instant) (n : Nat)
  | resetCommand (t : Instant) (n : Nat)
  | status (t : Instant) (n : Nat)
  | poll (t : Instant) (n : Nat)
  | readGroup (t : Instant) (n : Nat) (g : GroupField)
  | readReg (t : Instant) (n : Nat) (selector number : Nat)
  | surveyRead (t : Instant) (n : Nat) (channel : Nat)
  | openGroup (t : Instant) (n : Nat) (a : OpenArgs)
  | disband (t : Instant) (n : Nat) (g : GroupField)
  | retire (t : Instant) (n : Nat) (g : GroupField)
  | moveGroup (t : Instant) (n : Nat) (g : GroupField) (target : Nat)
  | setArea (t : Instant) (n : Nat) (g : GroupField) (area : Nat)
  | haltGroup (t : Instant) (n : Nat) (g : GroupField)
  | allHalt (t : Instant) (n : Nat)
  | releaseHalt (t : Instant) (n : Nat) (g : GroupField)
  | floorClear (t : Instant) (n : Nat) (channel : Nat)
  | setChannel (t : Instant) (n : Nat) (a : SetChannelArgs)
  | setDevice (t : Instant) (n : Nat) (a : SetDeviceArgs)
  | loadCurve (t : Instant) (n : Nat) (first count : Nat) (values : List Nat)
  | setPairing (t : Instant) (n : Nat) (a : SetPairingArgs)
  | store (t : Instant) (n : Nat)
  | clearAttention (t : Instant) (n : Nat) (mask : Nat)
  deriving DecidableEq, Repr

end Sys2Proof
end

