-- ==== Sys2Proof/Decode.lean ====
section
/-! DEFINITION. The words of the commands. The table of commands gives no row any bits, and the manual lays its records
out on separate lines and the serial port (11_line_and_port_formats.md), so no word spells a command. -/

namespace Sys2Proof

/-- The command that a word spells by the table's bits: none, since no row has bits. -/
def decodeTableWord (_nbits _w : Nat) : Option Instr := none

end Sys2Proof
end

