-- ==== Sys2Proof/Machine/Records.lean ====
section
/-! DEFINITION. The records of the JK-680 as plain data: registration entries (R2), group records (R21) with their
optional parts, notices (R48), transmit requests and frames (R128, R199), survey state (R162), and the responses of the
host port (R183, R188 to R193, R198). -/

namespace Sys2Proof.Machine

/-- R1: the two kinds of radio. -/
inductive RadioKind where
  | handset
  | loco
  deriving DecidableEq, Repr

/-- R12: the roles of a group's members. -/
inductive Role where
  | loco
  | leader
  | crew
  deriving DecidableEq, Repr

/-- R18: the motion a locomotive reports. -/
inductive Motion where
  | standing
  | moving
  | unknown
  deriving DecidableEq, Repr

/-- R91: a group's area. -/
inductive Area where
  | none
  | a
  | b
  deriving DecidableEq, Repr

/-- R23: the states of a group. -/
inductive GroupState where
  | opening
  | active
  | degraded
  | halt
  | releasing
  deriving DecidableEq, Repr

/-- R20, R44: the note left in a freed slot. -/
inductive SlotOutcome where
  | none
  | openFailed
  | disbanded
  | forced
  | crewOnly
  deriving DecidableEq, Repr

/-- R76: the eight halt causes. -/
inductive Cause where
  | locoLink
  | leaderLink
  | area
  | overspeed
  | stopUnconfirmed
  | starved
  | control
  | releaseLost
  deriving DecidableEq, Repr

/-- R76: a halt-cause set; each cause is present or absent. -/
structure Causes where
  locoLink : Bool := false
  leaderLink : Bool := false
  area : Bool := false
  overspeed : Bool := false
  stopUnconfirmed : Bool := false
  starved : Bool := false
  control : Bool := false
  releaseLost : Bool := false
  deriving DecidableEq, Repr

/-- R2: an entry of the Registration Table. `pinned` is the pinned group slot, present only when pinned. -/
structure RegEntry where
  radio : Radio
  kind : RadioKind
  channel : Chan
  level : Nat
  lastHeard : Instant
  pinned : Option SlotId
  deriving DecidableEq, Repr

/-- 05, "Order kinds". -/
inductive OrderKind where
  | forward
  | backward
  | slow
  | stop
  | count
  deriving DecidableEq, Repr

/-- What an ORDER and a RELAY frame carry: kind, argument, sequence (R100). -/
structure Order where
  kind : OrderKind
  arg : Nat
  seq : Nat
  deriving DecidableEq, Repr

/-- R99: the order in flight. `expiry` is absent in relay state PENDING and present in SENT; waiting and on the air are
told apart by the pending transmit set, as R99 says. -/
structure OrderInFlight where
  order : Order
  expiry : Option Instant
  deriving DecidableEq, Repr

/-- R109: the last confirmed order. -/
structure ConfirmedOrder where
  kind : OrderKind
  arg : Nat
  deriving DecidableEq, Repr

/-- R115: the approach record. -/
structure Approach where
  d0 : Nat
  ref : Nat
  latch : Bool
  deriving DecidableEq, Repr

/-- R21: the kinds of acknowledgement wait. -/
inductive WaitKind where
  | attach
  | release
  deriving DecidableEq, Repr

/-- R21, R26: an acknowledgement wait; `expiry` is absent in relay state PENDING and present in SENT. -/
structure AckWait where
  kind : WaitKind
  expiry : Option Instant
  deriving DecidableEq, Repr

/-- R63: the answer window. -/
structure AnswerWindow where
  target : Radio
  expiry : Instant
  deriving DecidableEq, Repr

/-- R33: the pending join. -/
structure PendingJoin where
  radio : Radio
  expiry : Instant
  deriving DecidableEq, Repr

/-- R148: the move record. -/
structure MoveRecord where
  oldChan : Chan
  oldPhase : Phase
  expiry : Instant
  checked : List Radio
  deriving DecidableEq, Repr

/-- R148, R158: the final old-channel HALT, with the channel and the phase kept for it. -/
structure FinalHalt where
  chan : Chan
  phase : Phase
  deriving DecidableEq, Repr

/-- The notice reasons of the manual, each with the content it carries (R5, R32, R48 and the rules cited there). -/
inductive Notice where
  | registryFull
  | redirect (channel : Chan)
  | notAllowed
  | refused (halted : Bool)
  | noAnswer
  | admitted
  | notFound
  | groupFull
  | groupBusy
  | jammed
  | assigned (loco : Radio)
  | joinRequest (radio : Radio)
  | memberLeft (radio : Radio)
  | memberLost (radio : Radio)
  | weakLink (radio : Radio)
  | linkRestored
  | halted (causes : Causes)
  | notTaken (seq : Nat)
  | resumed (state : GroupState)
  | causesPresent (causes : Causes)
  | confirmed (seq : Nat)
  | unconfirmed (seq : Nat)
  | stopPending (seq : Nat)
  | overspeedWarning (permitted reported : Nat)
  | leaderNow
  | moving
  | locoMoving
  | floorBusy
  deriving DecidableEq, Repr

/-- R48: a group notice is addressed to the leader, whoever that is when it leaves, or to a named radio. -/
inductive NoticeTo where
  | leader
  | radio (r : Radio)
  deriving DecidableEq, Repr

/-- R48: an entry of the group notice queue. -/
structure GroupNotice where
  notice : Notice
  dest : NoticeTo
  deriving DecidableEq, Repr

/-- R135: what a frame of the channel notice queue is. A REGISTERED carries the channel (R3; 11, "Channel line
records"). -/
inductive ChannelBody where
  | registered (channel : Chan)
  | notice (n : Notice)
  deriving DecidableEq, Repr

/-- R135: an entry of the channel notice queue, its content fixed when it is raised. `call` is the record's call number
field (R199; notes/assumptions/13.md). -/
structure ChannelNotice where
  body : ChannelBody
  radio : Radio
  call : Nat
  deriving DecidableEq, Repr

/-- R21: the loco member. -/
structure Loco where
  radio : Radio
  level : Nat
  motion : Motion
  speed : Option Nat
  odometer : Option Nat
  deriving DecidableEq, Repr

/-- R21: the leader member, and each crew member. -/
structure Member where
  radio : Radio
  level : Nat
  deriving DecidableEq, Repr

/-- R21: a group record. `pairing` is the standing pairing whose opening created it (R31; notes/assumptions/10.md). -/
structure Group where
  call : Nat
  state : GroupState
  channel : Chan
  phase : Phase
  area : Area
  wagon : Nat
  gate : Bool
  loco : Loco
  leader : Member
  crew : List Member
  position : Nat
  pointer : Option Nat
  window : Option AnswerWindow
  dropped : Nat
  causes : Causes
  wait : Option AckWait
  order : Option OrderInFlight
  lastConfirmed : Option ConfirmedOrder
  unconfirmed : Option Nat
  approach : Option Approach
  join : Option PendingJoin
  move : Option MoveRecord
  finalHalt : Option FinalHalt
  notices : List GroupNotice
  pairing : Option PairingId
  deriving DecidableEq, Repr

/-- R20: a slot is FREE with an outcome, or holds a group record. -/
inductive SlotBody where
  | free (outcome : SlotOutcome)
  | held (g : Group)
  deriving DecidableEq, Repr

/-- R20, R47: a slot with its changed mark. -/
structure Slot where
  changed : Bool
  body : SlotBody
  deriving DecidableEq, Repr

/-- R129: the kinds of transmit request, in the kind order. -/
inductive ReqKind where
  | halt
  | restart
  | relay
  | beat
  | ease
  | move
  | release
  | talkClose
  | talkGrant
  | attach
  | notice
  | registered
  deriving DecidableEq, Repr

/-- R128: the sources of a channel. -/
inductive Source where
  | channel
  | phase (p : Phase)
  deriving DecidableEq, Repr

/-- R133: the content that a request fixes when it is raised. `plain`: none, the content is formed at the hand-over (or
there is none); `oldHalt`: a HALT request on a move's old channel, which is no beat (R155); `attach`: an ATTACH raised
again with its same content (R26; notes/assumptions/22.md). -/
inductive ReqBody where
  | plain
  | oldHalt
  | ease (permitted remaining : Nat)
  | closing (radio : Radio)
  | retired (call : Nat)
  | attach (leader : Radio)
  deriving DecidableEq, Repr

/-- R128: a request of a pending transmit set. -/
structure Request where
  source : Source
  kind : ReqKind
  body : ReqBody
  deriving DecidableEq, Repr

/-- R199: the address of a downlink frame. -/
inductive Address where
  | radio (r : Radio)
  | group (call : Nat)
  | broadcast
  deriving DecidableEq, Repr

/-- R199: the content of a downlink frame. A beat also keeps the rotation position it was handed over at, which R61
reads. `oldHalt` is a HALT frame that names no poll target (R155). `empty` stands for a frame whose requester holds
nothing to send, which no run reaches (notes/assumptions/29.md). -/
inductive Content where
  | beat (target : Radio) (position : Nat)
  | halt (target : Radio) (position : Nat) (causes : Causes)
  | oldHalt (causes : Causes)
  | relay (o : Order)
  | ease (permitted remaining : Nat)
  | groupNotice (n : GroupNotice)
  | channelNotice (n : ChannelNotice)
  | attach (leader : Radio)
  | release
  | move (target : Chan) (seconds : Nat)
  | talkGrant (holder : Radio)
  | talkClose (radio : Radio)
  | restart (channel : Chan)
  | empty
  deriving DecidableEq, Repr

/-- R127, R133: the frame in flight with its source, its kind and the content it was sent with. `owner` is the group
slot whose source it left, `awaited` whether a requester still waits for its report (notes/assumptions/9.md). -/
structure Frame where
  source : Source
  kind : ReqKind
  owner : Option SlotId
  awaited : Bool
  address : Address
  call : Nat
  content : Content
  deriving DecidableEq, Repr

/-- R125: the states of a transmitter. -/
inductive TxState where
  | idle
  | frame
  | voice
  deriving DecidableEq, Repr

/-- R137: the holder of a talk floor. -/
structure FloorHolder where
  radio : Radio
  expiry : Instant
  deriving DecidableEq, Repr

/-- R162: the survey state. -/
inductive SurveyState where
  | off
  | error
  | armed
  | running
  deriving DecidableEq, Repr

/-- R164, R165: how far the sample of the survey cycle's phase has come. `waiting`: the phase was free at its instant
and its sampling moment has not been reached; `outstanding`: the noise-sample request has been sent. -/
inductive Sample where
  | none
  | waiting (instant deadline : Instant)
  | outstanding (phase : Nat) (requested : Instant)
  deriving DecidableEq, Repr

/-- R162: the running maximum. -/
structure RunMax where
  level : Nat
  phase : Nat
  deriving DecidableEq, Repr

/-- R162: the last result of a survey. -/
inductive SurveyResult where
  | none
  | noSample
  | level (level phase count : Nat)
  deriving DecidableEq, Repr

/-- R162: the records of a channel's Survey Unit. -/
structure Survey where
  state : SurveyState
  cycle : Nat
  runMax : Option RunMax
  count : Nat
  sample : Sample
  last : SurveyResult
  error : Bool
  jammed : Bool
  deriving DecidableEq, Repr

/-- R181: the items of the attention set, in R181's order. -/
inductive AttnItem where
  | power
  | line
  | command
  | profileDefaulted
  | fallback
  | storeDone
  | registryFull
  | jamChange (c : Chan)
  | surveyError (c : Chan)
  deriving DecidableEq, Repr

/-- R171: the device modes. -/
inductive DeviceMode where
  | startup
  | operate
  | fallback
  deriving DecidableEq, Repr

/-- R50: the channel modes. -/
inductive ChanMode where
  | off
  | live
  deriving DecidableEq, Repr

/-- R97: the fallback policy. -/
inductive Policy where
  | continueOn
  | haltAll
  deriving DecidableEq, Repr

/-- 11, "Host port frames": the reasons of REFUSED, in the order coded from 1. -/
inductive Reason where
  | inUse
  | full
  | state
  | unknown
  | wrongChannel
  | kind
  | notFound
  deriving DecidableEq, Repr

/-- 11, "Host port frames": the statuses of a response, in the order coded from 0. -/
inductive Status where
  | done
  | clamped
  | refused (r : Reason)
  | busy
  | fallback
  | malformed
  deriving DecidableEq, Repr

/-- R30, R175: a standing pairing's five fields, as SET-PAIRING gave them. -/
structure Pairing where
  call : Nat
  loco : Radio
  leader : Radio
  channel : Nat
  area : Nat
  deriving DecidableEq, Repr

/-- R31: a standing pairing with its hold. -/
structure HeldPairing where
  pairing : Pairing
  held : Bool
  deriving DecidableEq, Repr

/-- R198: the group record read-out of a non-FREE slot. Absent optional parts read 0 and are marked in `presence`, whose
places stand in the order of byte 9. -/
structure GroupReadout where
  slot : SlotId
  state : GroupState
  call : Nat
  channel : Chan
  phase : Phase
  area : Area
  wagon : Nat
  gate : Bool
  latch : Bool
  finalHalt : Bool
  changed : Bool
  presence : List Bool
  locoRadio : Radio
  locoLevel : Nat
  motion : Motion
  speed : Nat
  odometer : Nat
  leaderRadio : Radio
  leaderLevel : Nat
  crewCount : Nat
  crewPlaces : List Member
  position : Nat
  pointer : Nat
  windowTarget : Radio
  dropped : Nat
  causes : Causes
  wait : Nat
  orderKind : Nat
  orderArg : Nat
  orderSeq : Nat
  orderRelay : Nat
  confirmedKind : Nat
  confirmedArg : Nat
  unconfirmed : Nat
  d0 : Nat
  ref : Nat
  joinRadio : Radio
  oldChan : Nat
  oldPhase : Nat
  checkedMarks : List Bool
  secondsLeft : Nat
  noticeCount : Nat
  deriving DecidableEq, Repr

/-- R198: a slot's read-out. -/
inductive Readout where
  | free (slot : SlotId) (outcome : SlotOutcome)
  | group (r : GroupReadout)
  deriving DecidableEq, Repr

/-- R188: what STATUS returns of one channel. -/
structure ChannelStatus where
  mode : ChanMode
  ready : Bool
  period : Nat
  pendingPeriod : Option Nat
  occupancy : List (Option SlotId)
  tx : TxState
  requests : Nat
  noticeFrames : Nat
  holder : Option Radio
  queue : List Radio
  survey : SurveyState
  surveyError : Bool
  jammed : Bool
  deriving DecidableEq, Repr

/-- R188: what STATUS returns. -/
structure StatusReport where
  mode : DeviceMode
  storeBusy : Bool
  attention : List AttnItem
  anyChanged : Bool
  nonFree : Nat
  entries : Nat
  areaA : Bool
  areaB : Bool
  channels : List ChannelStatus
  pairings : List HeldPairing
  deriving DecidableEq, Repr

/-- R187 to R193: the payloads of the responses. -/
inductive Payload where
  | none
  | status (r : StatusReport)
  | poll (r : Option Readout)
  | readGroup (r : Readout) (changed : Bool)
  | readReg (e : RegEntry) (position entries : Nat)
  | entries (n : Nat)
  | surveyRead (state : SurveyState) (last : SurveyResult) (cycle : Nat) (runMax : Option RunMax) (count : Nat)
  | opened (slot : SlotId) (channel : Chan) (phase : Phase)
  | slot (slot : SlotId)
  | retired (slot : SlotId) (outcome : SlotOutcome)
  | moved (slot : SlotId) (channel : Chan) (phase : Phase)
  | area (slot : SlotId) (area : Area)
  | causes (slot : SlotId) (causes : Causes)
  | count (n : Nat)
  | attention (items : List AttnItem)
  deriving DecidableEq, Repr

/-- R183: a held response: the code of the command it answers, its status, the PRIOR UNREAD mark, its payload, and the
read mark of the holding place. -/
structure Response where
  code : Nat
  status : Status
  priorUnread : Bool
  payload : Payload
  read : Bool
  deriving DecidableEq, Repr

end Sys2Proof.Machine
end

