-- ==== Sys2Proof/Config.lean ====
section
/-! DEFINITION. What the manual leaves open as a value. -/

namespace Sys2Proof

/-- The number of bytes that a payload takes in its response, where the manual gives no layout for it (10 states what
each payload holds; 11 lays out the group record read-out alone). A free value: nothing constrains it
(notes/assumptions/11.md). R183 compares a transaction's length with the whole response's. -/
opaque Config.payloadBytes : Machine.Payload → Nat

end Sys2Proof
end

