-- ==== Sys2Proof/Machine/Settings.lean ====
section
/-! DEFINITION. The settings and their built-in defaults (R175), the profile (R175), the record of one channel (R50 to
R55, R125 to R137, R162) and what a reset makes of it (R179, R180). -/

namespace Sys2Proof.Machine

/-- R175: a channel's settings but for its mode and its beat period, which the Beat Scheduler holds. -/
structure ChannelConfig where
  answerWindow : Nat
  talkWindow : Nat
  floor : Nat
  survey : Bool
  blank : Nat
  jamOn : Nat
  jamOff : Nat
  defaultArea : Area
  deriving DecidableEq, Repr

/-- R175: one channel's part of the profile. -/
structure ChannelProfile where
  mode : ChanMode
  period : Nat
  config : ChannelConfig
  deriving DecidableEq, Repr

/-- R175, R195: the device-wide settings. Times are in the units of their rules; `silence` is m, absent for OFF. -/
structure DeviceSettings where
  warn : Nat
  regExpiry : Nat
  joinTimeout : Nat
  ackTimeout : Nat
  moveWindow : Nat
  bandShift : Nat
  easeTol : Nat
  haltExcess : Nat
  silence : Option Nat
  startup : Nat
  policy : Policy
  curve : Vector Nat 32
  deriving DecidableEq, Repr

/-- R175: what the profile holds. -/
structure Profile where
  channels : Vector ChannelProfile 8
  device : DeviceSettings
  pairings : Vector Pairing 8
  deriving DecidableEq, Repr

/-- R123: the built-in curve, the smaller of 250 and 30 + 10 × i. -/
def builtinCurve : Vector Nat 32 := Vector.ofFn fun i => min 250 (30 + 10 * i.val)

/-- R175: the built-in channel settings. -/
def builtinChannel : ChannelProfile where
  mode := .off
  period := 800
  config :=
    { answerWindow := 150, talkWindow := 8, floor := 0, survey := true, blank := 20, jamOn := 40, jamOff := 32,
      defaultArea := .none }

/-- R175: the built-in device settings. -/
def builtinDevice : DeviceSettings where
  warn := 3
  regExpiry := 90
  joinTimeout := 10
  ackTimeout := 1500
  moveWindow := 6
  bandShift := 7
  easeTol := 5
  haltExcess := 30
  silence := some 3
  startup := 10
  policy := .continueOn
  curve := builtinCurve

/-- R30: an empty pairing has loco radio 0. -/
def emptyPairing : Pairing := { call := 0, loco := 0, leader := 0, channel := 0, area := 0 }

/-- R175: the built-in profile; every pairing has loco radio 0. -/
def builtinProfile : Profile where
  channels := Vector.replicate 8 builtinChannel
  device := builtinDevice
  pairings := Vector.replicate 8 emptyPairing

/-- One channel's records: Beat Scheduler (R50 to R55), Channel Interface and Downlink Arbiter (R125 to R128), Talk Floor
Unit (R137), channel notice queue (R135), settings in force and Survey Unit (R162). -/
structure Channel where
  mode : ChanMode
  ready : Bool
  epoch : Option Instant
  cycleStart : Instant
  reached : Nat
  period : Nat
  pendingPeriod : Option Nat
  occupancy : Vector (Option SlotId) 8
  reqs : List Request
  inFlight : Option Frame
  lastTxEnd : Option Instant
  talk : Option FloorHolder
  talkQueue : List Radio
  notices : List ChannelNotice
  config : ChannelConfig
  survey : Survey
  deriving DecidableEq, Repr

/-- R162: clear progress in the given state, with no result and clear flags. -/
def Survey.fresh (st : SurveyState) : Survey :=
  { state := st, cycle := 0, runMax := none, count := 0, sample := .none, last := .none, error := false,
    jammed := false }

/-- R162: clearing the progress; the state, the last result and the flags stay. -/
def Survey.clearProgress (v : Survey) : Survey :=
  { v with cycle := 0, runMax := none, count := 0, sample := .none }

/-- R167: the survey error condition for a period and a blank time. -/
def surveyErrorCondition (period blank : Nat) : Bool := period / 8 < blank + 10

/-- R162, R167: the survey of a channel right after a reset, judged where the channel comes up LIVE with its survey
on. -/
def Survey.afterReset (p : ChannelProfile) : Survey :=
  match p.mode, p.config.survey with
  | .live, true =>
    if surveyErrorCondition p.period p.config.blank then { Survey.fresh .error with error := true }
    else Survey.fresh .running
  | _, _ => Survey.fresh .off

/-- R179, R180: a channel right after a reset at `now`, from the loaded profile; a LIVE channel takes the reset instant
as its epoch and has RESTART pending. -/
def Channel.afterReset (p : ChannelProfile) (now : Instant) : Channel where
  mode := p.mode
  ready := false
  epoch := if p.mode = .live then some now else none
  cycleStart := if p.mode = .live then now else 0
  reached := 0
  period := p.period
  pendingPeriod := none
  occupancy := Vector.replicate 8 none
  reqs := if p.mode = .live then [{ source := .channel, kind := .restart, body := .plain }] else []
  inFlight := none
  lastTxEnd := none
  talk := none
  talkQueue := []
  notices := []
  config := p.config
  survey := Survey.afterReset p

/-- R172: the startup timer's expiry after a reset at `now`; a setting of 0 starts no timer. -/
def startupExpiryFrom (d : DeviceSettings) (now : Instant) : Option Instant :=
  if d.startup = 0 then none else some (now + 1000 * d.startup)

/-- R179: a slot after a reset. -/
def Slot.fresh : Slot := { changed := false, body := .free .none }

end Sys2Proof.Machine
end

