-- ==== Sys2Proof/Machine/Flags.lean ====
section
/-! DEFINITION. The status sets of the controller: halt-cause sets (R76), the attention set (R181), and the pending
transmit set of a channel (R128, R129). Sets with no order of their own are kept sorted, so that equal sets are equal
data. -/

namespace Sys2Proof.Machine

/-- Puts `x` into a list sorted by `key`, in the place of an element with the same key. -/
def insertBy {α : Type} (key : α → Nat) (x : α) : List α → List α
  | [] => [x]
  | y :: ys =>
    if key x < key y then x :: y :: ys
    else if key x = key y then x :: ys
    else y :: insertBy key x ys

/-- Whether a cause is in the set. -/
def Causes.has (s : Causes) (c : Cause) : Bool :=
  match c with
  | .locoLink => s.locoLink
  | .leaderLink => s.leaderLink
  | .area => s.area
  | .overspeed => s.overspeed
  | .stopUnconfirmed => s.stopUnconfirmed
  | .starved => s.starved
  | .control => s.control
  | .releaseLost => s.releaseLost

/-- Makes a cause present or absent. -/
def Causes.put (s : Causes) (c : Cause) (b : Bool) : Causes :=
  match c with
  | .locoLink => { s with locoLink := b }
  | .leaderLink => { s with leaderLink := b }
  | .area => { s with area := b }
  | .overspeed => { s with overspeed := b }
  | .stopUnconfirmed => { s with stopUnconfirmed := b }
  | .starved => { s with starved := b }
  | .control => { s with control := b }
  | .releaseLost => { s with releaseLost := b }

/-- The set with a cause added. -/
def Causes.add (s : Causes) (c : Cause) : Causes := s.put c true

/-- The set with a cause removed. -/
def Causes.del (s : Causes) (c : Cause) : Causes := s.put c false

/-- Whether the set is empty. -/
def Causes.isEmpty (s : Causes) : Bool := s == {}

/-- Every cause that is in either set. -/
def Causes.union (s t : Causes) : Causes where
  locoLink := s.locoLink || t.locoLink
  leaderLink := s.leaderLink || t.leaderLink
  area := s.area || t.area
  overspeed := s.overspeed || t.overspeed
  stopUnconfirmed := s.stopUnconfirmed || t.stopUnconfirmed
  starved := s.starved || t.starved
  control := s.control || t.control
  releaseLost := s.releaseLost || t.releaseLost

/-- The set of one cause. -/
def Causes.single (c : Cause) : Causes := Causes.add {} c

/-- The place of an item in the order of R181, the JAM CHANGE items before the SURVEY ERROR items (11). -/
def AttnItem.place : AttnItem → Nat
  | .power => 0
  | .line => 1
  | .command => 2
  | .profileDefaulted => 3
  | .fallback => 4
  | .storeDone => 5
  | .registryFull => 6
  | .jamChange c => 7 + c.val
  | .surveyError c => 15 + c.val

/-- R181: setting an item; one that is present leaves the set unchanged. -/
def attnAdd (x : AttnItem) (l : List AttnItem) : List AttnItem := insertBy AttnItem.place x l

/-- R181: removing every item that a mask names. -/
def attnClear (mask : Nat) (l : List AttnItem) : List AttnItem :=
  l.filter fun x => !mask.testBit x.place

/-- R129: the place of a kind in the kind order. -/
def ReqKind.place : ReqKind → Nat
  | .halt => 0
  | .restart => 1
  | .relay => 2
  | .beat => 3
  | .ease => 4
  | .move => 5
  | .release => 6
  | .talkClose => 7
  | .talkGrant => 8
  | .attach => 9
  | .notice => 10
  | .registered => 11

/-- R129: the level of a kind. -/
def ReqKind.level : ReqKind → Nat
  | .halt => 7
  | .restart => 7
  | .relay => 6
  | .beat => 6
  | .ease => 6
  | .move => 5
  | .release => 5
  | .talkClose => 5
  | .talkGrant => 5
  | .attach => 5
  | .notice => 4
  | .registered => 3

/-- R132: the place of a source in the resolution chain. -/
def Source.place : Source → Nat
  | .channel => 0
  | .phase p => p.val + 1

/-- R132: the sources in the order of the resolution chain. -/
def chain : List Source := .channel :: phases.map .phase

/-- The sort key of a request: its source and its kind. -/
def Request.key (r : Request) : Nat := r.source.place * 12 + r.kind.place

/-- R128, "Raise". -/
def reqsRaise (r : Request) (l : List Request) : List Request := insertBy Request.key r l

/-- R128, "Withdraw". -/
def reqsWithdraw (src : Source) (k : ReqKind) (l : List Request) : List Request :=
  l.filter fun r => !(r.source == src && r.kind == k)

/-- The request of a source and kind in the set, if any. -/
def reqsFind (src : Source) (k : ReqKind) (l : List Request) : Option Request :=
  l.find? fun r => r.source == src && r.kind == k

/-- R48, R135: a notice queue of 4 discards its oldest to take a new one at the tail. -/
def pushNotice {α : Type} (q : List α) (x : α) : List α := (q ++ [x]).drop (q.length + 1 - 4)

/-- R49, R135: a refused notice goes back to the head where the queue holds fewer than 4, and is discarded otherwise. -/
def putBack {α : Type} (q : List α) (x : α) : List α := if q.length < 4 then x :: q else q

end Sys2Proof.Machine
end

