-- ==== Sys2Proof/Machine/Operands.lean ====
section
/-! DEFINITION. How the fields of the line and port records are read: enumerations coded from 0 in the order the manual
lists them (11, opening; notes/assumptions/21.md), values outside their ranges (R185, R197, R199), and the places of a
mask (notes/assumptions/12.md). -/

namespace Sys2Proof.Machine

/-- R199: a motion code outside its list is taken as UNKNOWN. -/
def motionOf (code : Nat) : Motion :=
  match code with
  | 0 => .standing
  | 1 => .moving
  | _ => .unknown

/-- The declared kind of a CHECK-IN; `none` where it names neither HANDSET nor LOCO (R199). -/
def radioKindOf (code : Nat) : Option RadioKind :=
  match code with
  | 0 => some .handset
  | 1 => some .loco
  | _ => none

/-- The order kind of an ORDER; `none` where the field names no order kind (R199). -/
def orderKindOf (code : Nat) : Option OrderKind :=
  match code with
  | 0 => some .forward
  | 1 => some .backward
  | 2 => some .slow
  | 3 => some .stop
  | 4 => some .count
  | _ => none

/-- The code of an order kind. -/
def OrderKind.code : OrderKind → Nat
  | .forward => 0
  | .backward => 1
  | .slow => 2
  | .stop => 3
  | .count => 4

/-- R199: a received level above 63 is taken as 63. -/
def levelOf (n : Nat) : Nat := min n 63

/-- R18, R199: a speed above 400 is taken as 400. -/
def speedOf (n : Nat) : Nat := min n 400

/-- R199: a sequence above 15 is taken as its remainder on division by 16. -/
def sequenceOf (n : Nat) : Nat := n % 16

/-- R102: COUNT's argument above 31 is taken as 31; the argument of the other kinds is not read and is 0. -/
def argumentOf (k : OrderKind) (n : Nat) : Nat :=
  match k with
  | .count => min n 31
  | _ => 0

/-- R102, R199: the order an ORDER frame gives, where its kind field names one. -/
def orderOf (f : UplinkFrame) : Option Order :=
  (orderKindOf f.orderKind).map fun k =>
    { kind := k, arg := argumentOf k f.argument, seq := sequenceOf f.sequence }

/-- An area field of SET-AREA, SET-CHANNEL and SET-PAIRING: NONE, A, B. -/
def areaOf (code : Nat) : Option Area :=
  match code with
  | 0 => some .none
  | 1 => some .a
  | 2 => some .b
  | _ => none

/-- OPEN's area field: NONE, A, B, DEFAULT; DEFAULT stands for the chosen channel's default area (R24). The outer
`none` is a code outside the list. -/
def openAreaOf (code : Nat) : Option (Option Area) :=
  match code with
  | 0 => some (some .none)
  | 1 => some (some .a)
  | 2 => some (some .b)
  | 3 => some none
  | _ => none

/-- The survey field and the standstill gate field: ON, OFF. -/
def onOffOf (code : Nat) : Option Bool :=
  match code with
  | 0 => some true
  | 1 => some false
  | _ => none

/-- SET-CHANNEL's mode field: OFF, LIVE. -/
def chanModeOf (code : Nat) : Option ChanMode :=
  match code with
  | 0 => some .off
  | 1 => some .live
  | _ => none

/-- SET-DEVICE's policy field: CONTINUE, HALT ALL. -/
def policyOf (code : Nat) : Option Policy :=
  match code with
  | 0 => some .continueOn
  | 1 => some .haltAll
  | _ => none

/-- A channel field; above 7 it names none (R197). -/
def chanOf (n : Nat) : Option Chan := if h : n < 8 then some ⟨n, h⟩ else none

/-- A slot field; above 39 it names none (R197). -/
def slotOf (n : Nat) : Option SlotId := if h : n < 40 then some ⟨n, h⟩ else none

/-- A pairing index field; above 7 it names none (R197). -/
def pairingOf (n : Nat) : Option PairingId := if h : n < 8 then some ⟨n, h⟩ else none

/-- A call number is from 1 to 99 (R197). -/
def validCall (n : Nat) : Bool := 1 ≤ n && n ≤ 99

/-- Whether the place `n` of a mask is filled: the first place is the least significant bit (notes/assumptions/12.md). -/
def maskHas (mask n : Nat) : Bool := mask.testBit n

/-- R185: a value outside its range is taken as the nearest end, a value off its step as the step value below it; the
flag says whether it was adjusted. -/
def clampStep (lo hi step v : Nat) : Nat × Bool :=
  if v < lo then (lo, true)
  else if hi < v then (hi, true)
  else if v % step ≠ 0 then (v - v % step, true)
  else (v, false)

/-- R173: the silence limit field: 255 is OFF, a value of m above 7 is taken as 7. -/
def silenceOf (v : Nat) : Option Nat × Bool :=
  if v = 255 then (none, false) else if 7 < v then (some 7, true) else (some v, false)

/-- R173: the silence limit in milliseconds, 250 ms × 2^m. -/
def silenceMs (m : Nat) : Nat := 250 * 2 ^ m

/-- R13: whether a sender field is a radio number. -/
def validSender (r : Radio) : Bool := r != 0 && r != broadcast

end Sys2Proof.Machine
end

