-- ==== Sys2Proof/Machine/State.lean ====
section
/-! DEFINITION. The state of the JK-680 as plain data, the reasons a command could stop (the manual gives none), and the
machine right after a POWER reset. -/

namespace Sys2Proof.Machine

/-- The manual names no fault that stops the controller: no meaning raises one. -/
inductive Fault where
  deriving DecidableEq, Repr

/-- The refusals. -/
inductive Refusal where
  /-- A command that has no meaning yet; no arm of `exec` answers with it. Safe: the model stops. -/
  | notModelled (mnemonic : String)
  deriving DecidableEq, Repr

/-- Everything the manual gives the controller. `now` is the instant of the last command taken (notes/assumptions/1.md),
`examine` says whether the command being taken calls for an examination of the standing pairings (4.md), `pending` is the
queue of waiting commands; the other fields are named by the rules cited. -/
structure State where
  now : Instant
  /-- R171 -/
  mode : DeviceMode
  /-- R172 -/
  startupExpiry : Option Instant
  /-- R173 -/
  silenceSince : Option Instant
  /-- R181 -/
  attention : List AttnItem
  /-- R175 -/
  profile : Profile
  /-- R175, R176: the valid mark -/
  profileValid : Bool
  /-- R177: the values being stored while store busy is shown -/
  storing : Option Profile
  /-- R20 -/
  slots : Vector Slot 40
  /-- R2: oldest first -/
  table : List RegEntry
  chans : Vector Channel 8
  /-- R175: the device settings in force -/
  device : DeviceSettings
  /-- R30, R31 -/
  pairings : Vector HeldPairing 8
  /-- R91: true is asserted -/
  areaA : Bool
  areaB : Bool
  /-- R183 -/
  response : Option Response
  examine : Bool
  pending : List Instr
  deriving DecidableEq, Repr

/-- The machine right after a POWER reset at instant 0 with an invalid profile and both area lines released (R176, R179,
R181; the profile, the levels and the instant are notes/assumptions/7.md). -/
def State.reset : State where
  now := 0
  mode := .startup
  startupExpiry := startupExpiryFrom builtinDevice 0
  silenceSince := none
  attention := [.power, .profileDefaulted]
  profile := builtinProfile
  profileValid := false
  storing := none
  slots := Vector.replicate 40 Slot.fresh
  table := []
  chans := Vector.replicate 8 (Channel.afterReset builtinChannel 0)
  device := builtinDevice
  pairings := Vector.replicate 8 { pairing := emptyPairing, held := false }
  areaA := false
  areaB := false
  response := none
  examine := false
  pending := []

end Sys2Proof.Machine
end

