-- ==== Sys2Proof/Machine/Ops.lean ====
section
/-! DEFINITION. The named operations over the records: channels and their pending transmit sets (R128), phases (R55),
group slots and changed marks (R47), the notice queues (R48, R135), the Registration Table and the Radio Directory (R2 to
R12), the attention set (R181). -/

namespace Sys2Proof.Machine

/-! ### Instants, channels and slots -/

/-- A command at instant `t` is taken no earlier than the command before it (notes/assumptions/1.md). -/
def State.tick (t : Instant) (s : State) : State := { s with now := max s.now t }

def State.chan (s : State) (c : Chan) : Channel := s.chans.get c

def State.setChan (c : Chan) (v : Channel) (s : State) : State := { s with chans := s.chans.set c v }

def State.modChan (c : Chan) (f : Channel → Channel) (s : State) : State := s.setChan c (f (s.chan c))

def State.slot (s : State) (i : SlotId) : Slot := s.slots.get i

def State.setSlot (i : SlotId) (v : Slot) (s : State) : State := { s with slots := s.slots.set i v }

/-- The group record of a slot, if the slot is not FREE. -/
def State.group (s : State) (i : SlotId) : Option Group :=
  match (s.slot i).body with
  | .held g => some g
  | .free _ => none

/-- Changes the group record of a slot that is not FREE. -/
def State.modGroup (i : SlotId) (f : Group → Group) (s : State) : State :=
  match (s.slot i).body with
  | .held g => s.setSlot i { (s.slot i) with body := .held (f g) }
  | .free _ => s

/-- R47: sets a slot's changed mark. -/
def State.mark (i : SlotId) (s : State) : State := s.setSlot i { (s.slot i) with changed := true }

/-- R181: sets an attention item. -/
def State.attend (x : AttnItem) (s : State) : State := { s with attention := attnAdd x s.attention }

/-- Whether some slot's changed mark is set. -/
def State.anyChanged (s : State) : Bool := slotIds.any fun i => (s.slot i).changed

/-- R182: the attention line is asserted exactly when the attention set is non-empty or some changed mark is set. -/
def State.attentionLine (s : State) : Bool := !s.attention.isEmpty || s.anyChanged

/-- R91: the held level of the line of an area; NONE has no line. -/
def State.areaAsserted (s : State) (area : Area) : Bool :=
  match area with
  | .none => false
  | .a => s.areaA
  | .b => s.areaB

/-! ### Requests and frames in flight -/

/-- R128: raises a request at a channel's arbiter. -/
def State.raise (c : Chan) (src : Source) (k : ReqKind) (b : ReqBody) (s : State) : State :=
  s.modChan c fun ch => { ch with reqs := reqsRaise { source := src, kind := k, body := b } ch.reqs }

/-- R128: withdraws a request. -/
def State.withdraw (c : Chan) (src : Source) (k : ReqKind) (s : State) : State :=
  s.modChan c fun ch => { ch with reqs := reqsWithdraw src k ch.reqs }

/-- Withdraws every request of a source. -/
def State.withdrawSource (c : Chan) (src : Source) (s : State) : State :=
  s.modChan c fun ch => { ch with reqs := ch.reqs.filter fun r => !(r.source == src) }

/-- Whether a request of the source and kind is pending. -/
def State.isPending (s : State) (c : Chan) (src : Source) (k : ReqKind) : Bool :=
  (reqsFind src k (s.chan c).reqs).isSome

/-- A frame that no requester waits for any more: its report starts nothing (R127; notes/assumptions/9.md). -/
def orphanIf (i : SlotId) (p : Frame → Bool) (fr : Option Frame) : Option Frame :=
  fr.map fun f => if f.owner = some i && p f then { f with awaited := false } else f

/-- The frames of a slot in flight on one channel that meet `p` lose their requester. -/
def State.orphanOn (c : Chan) (i : SlotId) (p : Frame → Bool) (s : State) : State :=
  s.modChan c fun ch => { ch with inFlight := orphanIf i p ch.inFlight }

/-- The frames of a slot in flight on any channel that meet `p` lose their requester. -/
def State.orphan (i : SlotId) (p : Frame → Bool) (s : State) : State :=
  channels.foldl (fun s c => s.orphanOn c i p) s

/-- R125: the transmitter's state. -/
def Channel.tx (ch : Channel) : TxState :=
  match ch.inFlight, ch.talk with
  | some _, _ => .frame
  | none, some _ => .voice
  | none, none => .idle

/-! ### Phases -/

/-- R55: the lowest-numbered free phase of a channel. -/
def Channel.freePhase (ch : Channel) : Option Phase := phases.find? fun p => (ch.occupancy.get p).isNone

/-- R55: assigns a phase to a slot. -/
def State.takePhase (c : Chan) (p : Phase) (i : SlotId) (s : State) : State :=
  s.modChan c fun ch => { ch with occupancy := ch.occupancy.set p (some i) }

/-- R55: frees a phase; in FALLBACK each freeing leads to an examination of the standing pairings (R30). -/
def State.freePhase (c : Chan) (p : Phase) (s : State) : State :=
  { (s.modChan c fun ch => { ch with occupancy := ch.occupancy.set p none }) with examine := true }

/-- Whether a slot holds a phase of a channel. -/
def State.holdsPhaseOn (s : State) (c : Chan) (i : SlotId) : Bool :=
  phases.any fun p => (s.chan c).occupancy.get p == some i

/-! ### Notices -/

/-- R48: raises a notice in a group's notice queue. -/
def State.groupNotice (i : SlotId) (n : Notice) (d : NoticeTo) (s : State) : State :=
  s.modGroup i fun g => { g with notices := pushNotice g.notices { notice := n, dest := d } }

/-- R48: a notice to the leader, whoever that is when it leaves. -/
def State.toLeader (i : SlotId) (n : Notice) (s : State) : State := s.groupNotice i n .leader

/-- R48: a notice to a named radio. -/
def State.toRadio (i : SlotId) (r : Radio) (n : Notice) (s : State) : State := s.groupNotice i n (.radio r)

/-- R135: raises a frame in a channel notice queue. -/
def State.channelFrame (c : Chan) (b : ChannelBody) (r : Radio) (call : Nat) (s : State) : State :=
  s.modChan c fun ch => { ch with notices := pushNotice ch.notices { body := b, radio := r, call := call } }

/-- R5, R135: raises a NOTICE in a channel notice queue. -/
def State.channelNotice (c : Chan) (n : Notice) (r : Radio) (call : Nat) (s : State) : State :=
  s.channelFrame c (.notice n) r call

/-! ### The Registration Table and the Radio Directory -/

/-- The entry of a radio. -/
def State.entry (s : State) (r : Radio) : Option RegEntry := s.table.find? fun e => e.radio == r

/-- Removes a radio's entry (R6, R9). -/
def State.dropEntry (r : Radio) (s : State) : State := { s with table := s.table.filter fun e => e.radio != r }

/-- Appends an entry at the tail (R2). -/
def State.appendEntry (e : RegEntry) (s : State) : State := { s with table := s.table ++ [e] }

/-- Whether there is room for one more entry (R2). -/
def State.tableHasRoom (s : State) : Bool := s.table.length < 96

/-- R8: marks a radio's entry as pinned to a slot. -/
def State.pin (r : Radio) (i : SlotId) (s : State) : State :=
  { s with table := s.table.map fun e => if e.radio = r then { e with pinned := some i } else e }

/-- R6, R7: whether an entry's expiry has been reached. -/
def State.entryDue (s : State) (e : RegEntry) : Bool := e.lastHeard + 1000 * s.device.regExpiry ≤ s.now

/-- R8: releases the pin of a radio's entry; an entry that is due by then is removed at once. -/
def State.unpin (r : Radio) (s : State) : State :=
  match s.entry r with
  | none => s
  | some e =>
    if s.entryDue e then s.dropEntry r
    else { s with table := s.table.map fun e => if e.radio = r then { e with pinned := none } else e }

/-- R5: a notice to a radio that is no group member and whose frame answered no uplink frame goes to the channel of the
radio's entry. -/
def State.noticeToEntry (r : Radio) (n : Notice) (call : Nat) (s : State) : State :=
  match s.entry r with
  | none => s
  | some e => s.channelNotice e.channel n r call

/-- R10: returns a radio to the table on a channel, or drops it where the table is full (R11). -/
def State.returnRadio (r : Radio) (k : RadioKind) (c : Chan) (s : State) : State :=
  if s.tableHasRoom then
    s.appendEntry { radio := r, kind := k, channel := c, level := 0, lastHeard := s.now, pinned := none }
  else s.attend .registryFull

/-- The role of a radio in a group (R12, R22). -/
def Group.roleOf (g : Group) (r : Radio) : Option Role :=
  if g.loco.radio = r then some .loco
  else if g.leader.radio = r then some .leader
  else if g.crew.any (fun m => m.radio == r) then some .crew
  else none

/-- R12: the group position of a radio; the directory is computed (notes/assumptions/6.md). -/
def State.memberPlace (s : State) (r : Radio) : Option (SlotId × Role) :=
  slotIds.findSome? fun i => (s.group i).bind fun g => (g.roleOf r).map fun role => (i, role)

/-- R22: the radios of a group: loco, leader, crew in list order. -/
def Group.radios (g : Group) : List Radio := g.loco.radio :: g.leader.radio :: g.crew.map (·.radio)

/-- R16: whether a channel is one of the channels a group uses. -/
def Group.usesChannel (g : Group) (c : Chan) : Bool :=
  g.channel == c || (match g.move with | some m => m.oldChan == c | none => false)

/-! ### Naming a group -/

/-- R191: the slot whose group holds a call number. -/
def State.slotOfCall (s : State) (call : Nat) : Option SlotId :=
  slotIds.find? fun i => match s.group i with | some g => g.call == call | none => false

/-- R20: the lowest-numbered FREE slot. -/
def State.freeSlot (s : State) : Option SlotId := slotIds.find? fun i => (s.group i).isNone

end Sys2Proof.Machine
end

