-- ==== Sys2Proof/Machine/Links.lean ====
section
/-! DEFINITION. Link levels and presence (R64, R67, R70 to R72) and the removal of halt causes (R77). -/

namespace Sys2Proof.Machine

/-- R77: a cause leaves the set; each removal of a present cause sets the changed mark. The state does not change. -/
def State.removeCause (i : SlotId) (c : Cause) (s : State) : State :=
  match s.group i with
  | none => s
  | some g =>
    if g.causes.has c then (s.modGroup i fun g => { g with causes := g.causes.del c }).mark i else s

/-- R70: the warn condition: the loco's or the leader's level is at or below the threshold. -/
def Group.warned (g : Group) (warn : Nat) : Bool := g.loco.level ≤ warn || g.leader.level ≤ warn

/-- R71: the member that NOTICE WEAK LINK names: the loco where its level is at or below the threshold, else the
leader. -/
def Group.weakest (g : Group) (warn : Nat) : Radio :=
  if g.loco.level ≤ warn then g.loco.radio else g.leader.radio

/-- R71, R72: an ACTIVE group in which the warn condition holds becomes DEGRADED, a DEGRADED one in which it no longer
holds becomes ACTIVE; the leader is told. -/
def State.judgeWarn (i : SlotId) (s : State) : State :=
  match s.group i with
  | none => s
  | some g =>
    if g.state = .active ∧ g.warned s.device.warn then
      ((s.modGroup i fun g => { g with state := .degraded }).mark i).toLeader i (.weakLink (g.weakest s.device.warn))
    else if g.state = .degraded ∧ ¬ g.warned s.device.warn then
      ((s.modGroup i fun g => { g with state := .active }).mark i).toLeader i .linkRestored
    else s

/-- The link level of a member. -/
def Group.levelOf (g : Group) (r : Radio) : Role → Nat
  | .loco => g.loco.level
  | .leader => g.leader.level
  | .crew => ((g.crew.find? fun m => m.radio == r).map (·.level)).getD 0

/-- Sets the link level of a member. -/
def Group.setLevel (g : Group) (r : Radio) (n : Nat) : Role → Group
  | .loco => { g with loco := { g.loco with level := n } }
  | .leader => { g with leader := { g.leader with level := n } }
  | .crew => { g with crew := g.crew.map fun m => if m.radio = r then { m with level := n } else m }

/-- R73, R78: the LINK cause of a role. -/
def Role.linkCause : Role → Option Cause
  | .loco => some .locoLink
  | .leader => some .leaderLink
  | .crew => none

/-- R67: sets a member's level to 7. A level from at or below the warn threshold is a crossing (R70); a loco refresh
removes LOCO_LINK, a leader refresh LEADER_LINK (R78); a DEGRADED group may become ACTIVE (R72). -/
def State.refresh (i : SlotId) (r : Radio) (s : State) : State :=
  match s.group i with
  | none => s
  | some g =>
    match g.roleOf r with
    | none => s
    | some role =>
      let s1 := s.modGroup i fun g => g.setLevel r 7 role
      let s2 := if g.levelOf r role ≤ s.device.warn then s1.mark i else s1
      let s3 := match role.linkCause with
        | none => s2
        | some c => s2.removeCause i c
      s3.judgeWarn i

/-- R64: any valid frame from the target of an open answer window closes the window as answered. -/
def Group.answered (g : Group) (r : Radio) : Group :=
  match g.window with
  | none => g
  | some w => if w.target = r then { g with window := none } else g

/-- R16, R17, R64, R67: a valid frame from a member counts as presence. -/
def State.presence (i : SlotId) (r : Radio) (s : State) : State :=
  (s.modGroup i fun g => g.answered r).refresh i r

end Sys2Proof.Machine
end

