-- ==== Sys2Proof/Machine/Talk.lean ====
section
/-! DEFINITION. The talk floor (R137 to R147): grants, ends of grants, forced withdrawals and the passing of the floor. -/

namespace Sys2Proof.Machine

/-- R144: a radio is eligible for a channel's floor when it is a member of a group on this channel that is ACTIVE or
DEGRADED and holds no move record. -/
def State.talkEligible (s : State) (c : Chan) (r : Radio) : Bool :=
  match s.memberPlace r with
  | none => false
  | some (i, _) =>
    match s.group i with
    | none => false
    | some g => g.channel == c && (g.state == .active || g.state == .degraded) && g.move.isNone

/-- R139: grants a channel's floor: the radio becomes holder for the talk window, TALK-GRANT is raised, and the holder's
link level is set to 7 (R67). -/
def State.grantFloor (c : Chan) (r : Radio) (s : State) : State :=
  let s1 := s.modChan c fun ch =>
    { ch with talk := some { radio := r, expiry := s.now + 1000 * ch.config.talkWindow } }
  let s2 := s1.raise c .channel .talkGrant .plain
  match s.memberPlace r with
  | none => s2
  | some (i, _) => s2.refresh i r

/-- R125: the instant at which a transmitter that carries no frame goes to IDLE is the end of a transmission. -/
def State.voiceEnds (c : Chan) (s : State) : State :=
  s.modChan c fun ch => if ch.inFlight.isNone then { ch with lastTxEnd := some s.now } else ch

/-- R144, steps 3 and 4: the heads of the queue are tried until one is granted the floor or none is left. -/
def State.passQueue (c : Chan) : List Radio → State → State
  | [], s => (s.modChan c fun ch => { ch with talkQueue := [] }).voiceEnds c
  | r :: q, s =>
    if s.talkEligible c r then (s.modChan c fun ch => { ch with talkQueue := q }).grantFloor c r
    else State.passQueue c q s

/-- R144: the floor passes to the queue. -/
def State.passFloor (c : Chan) (s : State) : State := s.passQueue c (s.chan c).talkQueue

/-- R144, steps 1 and 2: the holder leaves the floor, its pending TALK-GRANT is withdrawn, and TALK-CLOSE naming it is
raised (R145). -/
def State.clearHolder (c : Chan) (s : State) : State :=
  match (s.chan c).talk with
  | none => s
  | some h =>
    ((s.modChan c fun ch => { ch with talk := none }).withdraw c .channel .talkGrant).raise c .channel .talkClose
      (.closing h.radio)

/-- R144: a grant ends and the floor passes. A free floor stays as it is. -/
def State.endGrant (c : Chan) (s : State) : State :=
  match (s.chan c).talk with
  | none => s
  | some _ => (s.clearHolder c).passFloor c

/-- Whether a radio holds a channel's floor. -/
def State.holdsFloor (s : State) (c : Chan) (r : Radio) : Bool :=
  match (s.chan c).talk with
  | none => false
  | some h => h.radio == r

/-- R38, R74, R146: withdraws the floor from a radio, on whichever channel it holds one. -/
def State.withdrawFrom (r : Radio) (s : State) : State :=
  channels.foldl (fun s c => if s.holdsFloor c r then s.endGrant c else s) s

/-- R146: withdraws the floor from a member of a group, on each of the given channels. -/
def State.withdrawGroup (cs : List Chan) (radios : List Radio) (s : State) : State :=
  cs.foldl (fun s c => if radios.any (fun r => s.holdsFloor c r) then s.endGrant c else s) s

/-- R147: FLOOR-CLEAR's effect on a channel. -/
def State.clearFloor (c : Chan) (s : State) : State :=
  match (s.chan c).talk with
  | none => s
  | some _ => ((s.clearHolder c).modChan c fun ch => { ch with talkQueue := [] }).voiceEnds c

end Sys2Proof.Machine
end

