-- ==== Sys2Proof/Machine/Halt.lean ====
section
/-! DEFINITION. Halt causes and the entry into HALT (R76, R81 to R85), and what an entry discards: orders (R81, R114),
approach records (R115, R120), pending joins (R37). -/

namespace Sys2Proof.Machine

/-- R37: cancels a group's pending join; the handset is sent NOTICE REFUSED, carrying HALTED where the group entered
HALT, and its entry is unpinned (R8). The notice is raised before the entry can be removed. -/
def State.cancelJoin (i : SlotId) (halted : Bool) (s : State) : State :=
  match s.group i with
  | none => s
  | some g =>
    match g.join with
    | none => s
    | some j =>
      ((((s.modGroup i fun g => { g with join := none }).noticeToEntry j.radio (.refused halted) g.call).unpin
        j.radio).mark i)

/-- Whether a frame is a RELAY. -/
def Frame.isRelay (f : Frame) : Bool := f.kind == .relay

/-- Whether a frame is an EASE. -/
def Frame.isEase (f : Frame) : Bool := f.kind == .ease

/-- Whether a frame is a MOVE. -/
def Frame.isMove (f : Frame) : Bool := f.kind == .move

/-- Whether a frame is an ATTACH. -/
def Frame.isAttach (f : Frame) : Bool := f.kind == .attach

/-- Whether a frame is a HALT frame on a move's old channel (R155). -/
def Frame.isOldHalt (f : Frame) : Bool :=
  match f.content with
  | .oldHalt _ => true
  | _ => false

/-- Whether a frame is a beat: a BEAT, or a HALT that is no old-channel HALT. -/
def Frame.isBeat (f : Frame) : Bool := f.kind == .beat || (f.kind == .halt && !f.isOldHalt)

/-- R41, R81, R107, R114: the order in flight is dropped: its pending RELAY is withdrawn and the report on a RELAY frame
in flight starts nothing. -/
def State.dropOrder (i : SlotId) (s : State) : State :=
  match s.group i with
  | none => s
  | some g =>
    match g.order with
    | none => s
    | some _ =>
      ((s.modGroup i fun g => { g with order := none }).withdraw g.channel (.phase g.phase) .relay).orphan i
        Frame.isRelay

/-- R81, R114: drops the order in flight and tells the leader NOT TAKEN. -/
def State.discardOrder (i : SlotId) (s : State) : State :=
  match s.group i with
  | none => s
  | some g =>
    match g.order with
    | none => s
    | some o => (s.dropOrder i).toLeader i (.notTaken o.order.seq)

/-- R109, R115, R120: the approach record is discarded, a pending EASE is withdrawn, and the report on an EASE frame in
flight starts nothing. -/
def State.dropApproach (i : SlotId) (s : State) : State :=
  match s.group i with
  | none => s
  | some g =>
    match g.approach with
    | none => s
    | some _ =>
      ((s.modGroup i fun g => { g with approach := none }).withdraw g.channel (.phase g.phase) .ease).orphan i
        Frame.isEase

/-- R155: during a move each HALT request on the target comes with one on the old channel. -/
def State.oldChannelHalt (i : SlotId) (s : State) : State :=
  match s.group i with
  | none => s
  | some g =>
    match g.move with
    | none => s
    | some m => s.raise m.oldChan (.phase m.oldPhase) .halt .oldHalt

/-- R82: on entry the group's beat becomes a HALT request, in the place of a pending BEAT or raised at once. -/
def State.haltBeat (i : SlotId) (s : State) : State :=
  match s.group i with
  | none => s
  | some g =>
    ((s.withdraw g.channel (.phase g.phase) .beat).raise g.channel (.phase g.phase) .halt .plain).oldChannelHalt i

/-- R81: the entry into HALT of a group whose causes have been added: the state and the changed mark, then steps 1
to 6. -/
def State.enterHalt (i : SlotId) (s : State) : State :=
  match s.group i with
  | none => s
  | some g =>
    let s0 := (s.modGroup i fun g => { g with state := .halt }).mark i
    let s1 := s0.discardOrder i
    let s2 := s1.dropApproach i
    let s3 := s2.cancelJoin i true
    let s4 := s3.withdrawGroup (channels.filter fun c => s.holdsPhaseOn c i) g.radios
    let s5 := s4.haltBeat i
    s5.toLeader i (.halted g.causes)

/-- R76: whether adding a cause in this state makes a HALT entry. -/
def GroupState.entersHalt : GroupState → Bool
  | .opening => true
  | .active => true
  | .degraded => true
  | .halt => false
  | .releasing => false

/-- R76, R85: adds causes by one event. Causes that are all present change nothing; otherwise the changed mark is set,
and a group in OPENING, ACTIVE or DEGRADED enters HALT once. -/
def State.addCauses (i : SlotId) (cs : Causes) (s : State) : State :=
  match s.group i with
  | none => s
  | some g =>
    if g.causes.union cs = g.causes then s
    else
      let s1 := (s.modGroup i fun g => { g with causes := g.causes.union cs }).mark i
      if g.state.entersHalt then s1.enterHalt i else s1

/-- R76: adds one cause. -/
def State.addCause (i : SlotId) (c : Cause) (s : State) : State := s.addCauses i (Causes.single c)

/-- R57, R58: a dropped beat; at the fourth STARVED is added. -/
def State.dropBeat (i : SlotId) (s : State) : State :=
  match s.group i with
  | none => s
  | some g =>
    let n := min 4 (g.dropped + 1)
    let s1 := s.modGroup i fun g => { g with dropped := n }
    if n = 4 then s1.addCause i .starved else s1

end Sys2Proof.Machine
end

