-- ==== Sys2Proof/Machine/Approach.lean ====
section
/-! DEFINITION. Approach supervision: the approach record (R109, R115) and the seven stages of the check (R116 to R122).
Every quantity is a whole number; the quotient of the interpolation truncates toward zero (R118). -/

namespace Sys2Proof.Machine

/-- R123: entry `i` of the Approach Curve Table; the last entry stands for every band beyond it. -/
def curveAt (c : Vector Nat 32) (i : Nat) : Nat := if h : i < 32 then c.get ⟨i, h⟩ else c.get 31

/-- R117, "Travelled": the wrapped difference; above 32767 it is backward travel and counts as 0. -/
def travelled (odometer ref : Nat) : Nat :=
  let t := (odometer + (65536 - ref)) % 65536
  if 32767 < t then 0 else t

/-- R117, "Remaining". -/
def remaining (a : Approach) (odometer : Nat) : Nat := a.d0 - travelled odometer a.ref

/-- R118: the permitted speed for a remaining distance under a curve and a band shift. -/
def permittedSpeed (c : Vector Nat 32) (k r : Nat) : Nat :=
  let w := 2 ^ k
  let b := min 31 (r / w)
  if b = 31 then curveAt c 31
  else
    let off := r - b * w
    let lo : Int := curveAt c b
    let hi : Int := curveAt c (b + 1)
    (lo + ((hi - lo) * off).tdiv w).toNat

/-- R119: the excess of the reported speed over the permitted speed. -/
def speedExcess (speed permitted : Nat) : Int := (speed : Int) - permitted

/-- R120: an EASE advisory: the EASE request, the warning to the leader, and the latch. -/
def State.adviseEase (i : SlotId) (g : Group) (permitted remaining speed : Nat) (s : State) : State :=
  ((s.raise g.channel (.phase g.phase) .ease (.ease permitted remaining)).toLeader i
    (.overspeedWarning permitted speed)).modGroup i
      fun g => { g with approach := g.approach.map fun a => { a with latch := true } }

/-- R119: the excess is at or below the tolerance: a set latch is cleared and a pending EASE withdrawn. -/
def State.clearLatch (i : SlotId) (g : Group) (s : State) : State :=
  (s.withdraw g.channel (.phase g.phase) .ease).modGroup i
    fun g => { g with approach := g.approach.map fun a => { a with latch := false } }

/-- R119, R121: the outcome of a check whose excess is not above the halt excess, and the end of the approach. -/
def State.approachOutcome (i : SlotId) (g : Group) (a : Approach) (speed permitted rem : Nat) (motion : Motion)
    (s : State) : State :=
  let s1 :=
    if speedExcess speed permitted ≤ s.device.easeTol then (if a.latch then s.clearLatch i g else s)
    else if a.latch then s else s.adviseEase i g permitted rem speed
  if motion = .standing ∧ rem = 0 then s1.dropApproach i else s1

/-- R116 to R122: the approach check on a loco frame's speed, odometer and motion. -/
def State.approachCheck (i : SlotId) (speed odometer : Nat) (motion : Motion) (s : State) : State :=
  match s.group i with
  | none => s
  | some g =>
    match g.approach with
    | none => s
    | some a =>
      if g.state = .active ∨ g.state = .degraded then
        let rem := remaining a odometer
        let v := permittedSpeed s.device.curve s.device.bandShift rem
        if (s.device.haltExcess : Int) < speedExcess speed v then s.addCause i .overspeed
        else s.approachOutcome i g a speed v rem motion
      else s

/-- R109: what the confirmation of an order makes of the approach record; `odometer` is the confirming frame's. -/
def State.approachOnConfirm (i : SlotId) (o : Order) (odometer : Nat) (s : State) : State :=
  match o.kind with
  | .slow => s
  | .count =>
    (s.dropApproach i).modGroup i fun g =>
      { g with approach := some { d0 := o.arg * g.wagon, ref := odometer, latch := false } }
  | .forward => s.dropApproach i
  | .backward => s.dropApproach i
  | .stop => s.dropApproach i

end Sys2Proof.Machine
end

