-- ==== Sys2Proof/Machine/Groups.lean ====
section
/-! DEFINITION. The life of a group: opening (R24, R25, R30), membership (R22, R34, R38, R39, R62, R74), disbanding
(R40, R41), the completion of a move (R156), retirement (R44) and the standing pairings (R30, R31). -/

namespace Sys2Proof.Machine

/-! ### Membership -/

/-- R62: the crew pointer after the crew member at index `i` is taken out of the list. -/
def adjustPointer (p : Option Nat) (i : Nat) : Option Nat :=
  match p with
  | none => none
  | some n => if n < i then some n else if n = i then (if i = 0 then none else some (i - 1)) else some (n - 1)

/-- R22, R62: takes a radio out of the crew list; the pointer follows, and is none when the list becomes empty. -/
def Group.removeCrew (g : Group) (r : Radio) : Group :=
  match g.crew.findIdx? fun m => m.radio == r with
  | none => g
  | some i =>
    { g with
      crew := g.crew.eraseIdx i
      pointer := if g.crew.length ≤ 1 then none else adjustPointer g.pointer i }

/-- R38, R66: an answer window that targets a radio closes with no effect. -/
def Group.closeWindowOf (g : Group) (r : Radio) : Group := g.answered r

/-- R159: a radio leaves the checked-in set of a move. -/
def Group.uncheck (g : Group) (r : Radio) : Group :=
  match g.move with
  | none => g
  | some m => { g with move := some { m with checked := m.checked.filter fun x => x != r } }

/-- R156: whether every present member is in the checked-in set. -/
def Group.allChecked (g : Group) (m : MoveRecord) : Bool := g.radios.all fun r => m.checked.contains r

/-- R156: an end of the move with every member in the set, steps 1 to 4. -/
def State.completeMove (i : SlotId) (s : State) : State :=
  match s.group i with
  | none => s
  | some g =>
    match g.move with
    | none => s
    | some m =>
      if g.allChecked m then
        ((((((s.modGroup i fun g => { g with move := none }).withdraw m.oldChan (.phase m.oldPhase) .move).withdraw
          m.oldChan (.phase m.oldPhase) .halt).freePhase m.oldChan m.oldPhase).orphanOn m.oldChan i
          fun _ => true).mark i)
      else s

/-- R74, R157: a lost crew member leaves the list with its window, its floor and its place in the Directory; the leader
is sent NOTICE MEMBER LOST. -/
def State.loseCrew (i : SlotId) (r : Radio) (s : State) : State :=
  ((((s.modGroup i fun g => ((g.removeCrew r).closeWindowOf r).uncheck r).withdrawFrom r).toLeader i
    (.memberLost r)).mark i)

/-- R74, R159: a crew member is lost at level 0, which may complete a move (R156). -/
def State.loseMember (i : SlotId) (r : Radio) (s : State) : State := (s.loseCrew i r).completeMove i

/-- R75, R150, R170: the deferred crew members of a group, still at level 0, are lost in crew-list order. -/
def State.settleDeferred (i : SlotId) (s : State) : State :=
  match s.group i with
  | none => s
  | some g => (g.crew.filter fun m => m.level == 0).foldl (fun s m => s.loseMember i m.radio) s

/-! ### Disbanding and retirement -/

/-- R160: withdraws what a move or a final old-channel HALT has pending at the old phase's source, and frees the old
phase; a final frame on the air loses its requester. -/
def State.endOldChannel (i : SlotId) (s : State) : State :=
  match s.group i with
  | none => s
  | some g =>
    let s1 := match g.move with
      | none => s
      | some m =>
        (((s.modGroup i fun g => { g with move := none }).withdraw m.oldChan (.phase m.oldPhase) .move).withdraw
          m.oldChan (.phase m.oldPhase) .halt).freePhase m.oldChan m.oldPhase
    match g.finalHalt with
    | none => s1
    | some h =>
      ((s1.modGroup i fun g => { g with finalHalt := none }).withdraw h.chan (.phase h.phase) .halt).freePhase
        h.chan h.phase

/-- R40: whether a DISBAND is taken: ACTIVE, DEGRADED or HALT, no ATTACH wait, motion STANDING. -/
def Group.disbandable (g : Group) : Bool :=
  (g.state == .active || g.state == .degraded || g.state == .halt)
    && !(g.wait.any fun w => w.kind == .attach) && g.loco.motion == .standing

/-- R41, R160: a taken DISBAND, steps 1 to 9. -/
def State.startRelease (i : SlotId) (s : State) : State :=
  match s.group i with
  | none => s
  | some g =>
    let s1 := (s.modGroup i fun g => { g with state := .releasing }).mark i
    let s2 := s1.dropOrder i
    let s3 := s2.dropApproach i
    let s4 := s3.modGroup i fun g => { g with window := none }
    let s5 := ((s4.withdraw g.channel (.phase g.phase) .beat).withdraw g.channel (.phase g.phase) .halt).orphan i
      fun f => f.isBeat || f.isOldHalt || f.isMove
    let s6 := s5.cancelJoin i false
    let s7 := s6.endOldChannel i
    let s8 := s7.withdrawGroup channels g.radios
    let s9 := s8.modGroup i fun g => { g with wait := some { kind := .release, expiry := none } }
    s9.raise g.channel (.phase g.phase) .release .plain

/-- R31: a pairing whose opening retires as OPEN FAILED becomes held. -/
def State.holdPairing (k : Option PairingId) (s : State) : State :=
  match k with
  | none => s
  | some k => { s with pairings := s.pairings.set k { (s.pairings.get k) with held := true } }

/-- R10, R44: the radios a retirement returns, in order, with the kinds of their roles. -/
def Group.returned (g : Group) (o : SlotOutcome) : List (Radio × RadioKind) :=
  (g.loco.radio, .loco) :: (g.leader.radio, .handset)
    :: (if o = .openFailed then [] else g.crew.map fun m => (m.radio, .handset))

/-- R44: the requests at a group's sources are withdrawn on its channel and on an old channel. -/
def State.withdrawSources (g : Group) (s : State) : State :=
  let s1 := s.withdrawSource g.channel (.phase g.phase)
  let s2 := match g.move with
    | none => s1
    | some m => s1.withdrawSource m.oldChan (.phase m.oldPhase)
  match g.finalHalt with
  | none => s2
  | some h => s2.withdrawSource h.chan (.phase h.phase)

/-- R44: a group's phase is freed, and an old phase as well. -/
def State.freePhases (g : Group) (s : State) : State :=
  let s1 := s.freePhase g.channel g.phase
  let s2 := match g.move with
    | none => s1
    | some m => s1.freePhase m.oldChan m.oldPhase
  match g.finalHalt with
  | none => s2
  | some h => s2.freePhase h.chan h.phase

/-- R44: retirement, steps 1 to 8. The members count as those of no standing group from the start, so that the floor
passes none of them. -/
def State.retire (i : SlotId) (o : SlotOutcome) (s : State) : State :=
  match s.group i with
  | none => s
  | some g =>
    let s0 := s.modGroup i fun g => { g with state := .releasing }
    let s1 := s0.cancelJoin i false
    let s2 := s1.withdrawGroup channels g.radios
    let s3 := (s2.withdrawSources g).orphan i fun _ => true
    let s6 := (g.returned o).foldl (fun s p => s.returnRadio p.1 p.2 g.channel) s3
    let s7 := s6.freePhases g
    let s8 := s7.setSlot i { changed := true, body := .free o }
    let s9 := if o = .openFailed then s8.holdPairing g.pairing else s8
    { s9 with examine := true }

/-! ### Opening -/

/-- What an opening names (R24, R30). `channel` is absent for ANY, `area` for DEFAULT. -/
structure Opening where
  call : Nat
  loco : Radio
  leader : Radio
  channel : Option Chan
  area : Option Area
  wagon : Nat
  gate : Bool
  pairing : Option PairingId
  deriving DecidableEq, Repr

/-- R24: a channel that may take a group: LIVE and not JAMMED. -/
def Channel.usable (ch : Channel) : Bool := ch.mode == .live && !ch.survey.jammed

/-- R24, checks 3 to 5: the channel and the phase of an opening. -/
def State.openPlace (s : State) (c : Option Chan) : Except Reason (Chan × Phase) :=
  match c with
  | some c =>
    if (s.chan c).usable then
      match (s.chan c).freePhase with
      | some p => .ok (c, p)
      | none => .error .full
    else .error .state
  | none =>
    match channels.findSome? fun c =>
      if (s.chan c).usable then (s.chan c).freePhase.map fun p => (c, p) else none with
    | some r => .ok r
    | none => .error .full

/-- R24, checks 6 to 10: the two radios, on the chosen channel. -/
def State.openRadios (s : State) (loco leader : Radio) (c : Chan) : Except Reason Unit :=
  if loco = leader then .error .kind
  else
    match s.entry loco, s.entry leader with
    | some a, some b =>
      if ¬ (a.channel = c ∧ b.channel = c) then .error .wrongChannel
      else if ¬ (a.kind = .loco ∧ b.kind = .handset) then .error .kind
      else if a.pinned.isSome || b.pinned.isSome then .error .state
      else .ok ()
    | _, _ => .error .unknown

/-- R24: the checks of an opening, in order; what they give is the slot, the channel and the phase. -/
def State.openCheck (s : State) (o : Opening) : Except Reason (SlotId × Chan × Phase) :=
  if (s.slotOfCall o.call).isSome then .error .inUse
  else
    match s.freeSlot with
    | none => .error .full
    | some i =>
      match s.openPlace o.channel with
      | .error r => .error r
      | .ok (c, p) =>
        match s.openRadios o.loco o.leader c with
        | .error r => .error r
        | .ok () => .ok (i, c, p)

/-- R21, R25: the record that an opening creates. -/
def Opening.record (o : Opening) (c : Chan) (p : Phase) (area : Area) : Group where
  call := o.call
  state := .opening
  channel := c
  phase := p
  area := area
  wagon := o.wagon
  gate := o.gate
  loco := { radio := o.loco, level := 7, motion := .unknown, speed := none, odometer := none }
  leader := { radio := o.leader, level := 7 }
  crew := []
  position := 0
  pointer := none
  window := none
  dropped := 0
  causes := {}
  wait := some { kind := .attach, expiry := none }
  order := none
  lastConfirmed := none
  unconfirmed := none
  approach := none
  join := none
  move := none
  finalHalt := none
  notices := []
  pairing := o.pairing

/-- R25: a taken opening creates the group in one step. -/
def State.openGroup (o : Opening) (i : SlotId) (c : Chan) (p : Phase) (s : State) : State :=
  let area := o.area.getD (s.chan c).config.defaultArea
  let s1 := (s.dropEntry o.loco).dropEntry o.leader
  let s2 := s1.setSlot i { changed := true, body := .held (o.record c p area) }
  let s3 := (s2.takePhase c p i).raise c (.phase p) .attach .plain
  if s.areaAsserted area then s3.addCause i .area else s3

/-- R30: the opening of a pairing, with wagon length 150 dm and the standstill gate on. -/
def Pairing.opening (q : Pairing) (k : PairingId) (c : Chan) (area : Area) : Opening where
  call := q.call
  loco := q.loco
  leader := q.leader
  channel := some c
  area := some area
  wagon := 150
  gate := true
  pairing := some k

/-- R30: whether a radio has an entry on a channel. -/
def State.registeredOn (s : State) (r : Radio) (c : Chan) : Bool := (s.entry r).any fun e => e.channel == c

/-- R30: opens a group from a pairing when all its conditions hold; a failed check changes nothing. -/
def State.tryPairing (s : State) (k : PairingId) : State :=
  let q := s.pairings.get k
  match chanOf q.pairing.channel, areaOf q.pairing.area with
  | some c, some area =>
    if q.pairing.loco ≠ 0 ∧ ¬ q.held ∧ s.registeredOn q.pairing.loco c ∧ s.registeredOn q.pairing.leader c then
      match s.openCheck (q.pairing.opening k c area) with
      | .ok (i, c', p) => s.openGroup (q.pairing.opening k c area) i c' p
      | .error _ => s
    else s
  | _, _ => s

/-- R30: the examination of the pairings, in order from 0 to 7, made in FALLBACK alone. -/
def State.examinePairings (s : State) : State :=
  if s.mode = .fallback then pairingIds.foldl State.tryPairing s else s

end Sys2Proof.Machine
end

