-- ==== Sys2Proof/Machine/Survey.lean ====
section
/-! DEFINITION. The Survey Unit (R161 to R170): the survey's cycles, the settlement of a sample, the result and the
jammed flag, the survey error. -/

namespace Sys2Proof.Machine

/-- Changes a channel's survey records. -/
def State.modSurvey (c : Chan) (f : Survey → Survey) (s : State) : State :=
  s.modChan c fun ch => { ch with survey := f ch.survey }

/-- R54: phase `p`'s instant in the cycle in progress. -/
def Channel.phaseTime (ch : Channel) (p : Phase) : Instant := ch.cycleStart + p.val * ch.period / 8

/-- R164: the deadline of the phase whose instant is `t`. -/
def Channel.deadline (ch : Channel) (t : Instant) : Instant := t + ch.period / 8 - 10

/-- R164: the sampling moment of a free phase whose instant is `t`, while no transmission is in progress. -/
def Channel.samplingMoment (ch : Channel) (t : Instant) : Instant :=
  match ch.lastTxEnd with
  | none => t
  | some e => max t (e + ch.config.blank)

/-- R166: the result of a survey. -/
def Survey.result (v : Survey) : SurveyResult :=
  match v.runMax with
  | none => .noSample
  | some m => .level m.level m.phase v.count

/-- R166, R170: sets the jammed flag. -/
def State.jam (c : Chan) (s : State) : State :=
  (s.modSurvey c fun v => { v with jammed := true }).attend (.jamChange c)

/-- R166, R170: clears the jammed flag; the deferred crew members of every group on the channel are settled in slot
order, and in FALLBACK the pairings are examined. -/
def State.unjam (c : Chan) (s : State) : State :=
  let s1 := (s.modSurvey c fun v => { v with jammed := false }).attend (.jamChange c)
  let s2 := slotIds.foldl (fun s i =>
    match s.group i with
    | none => s
    | some g => if g.channel = c then s.settleDeferred i else s) s1
  { s2 with examine := true }

/-- R166: a result with a level is judged against the thresholds in force. -/
def State.judgeJam (c : Chan) (r : SurveyResult) (s : State) : State :=
  match r with
  | .level l _ _ =>
    if (s.chan c).survey.jammed then (if l < (s.chan c).config.jamOff then s.unjam c else s)
    else if (s.chan c).config.jamOn ≤ l then s.jam c
    else s
  | _ => s

/-- R163, R166: the result is formed, the progress is cleared and the survey goes to `next`. -/
def State.concludeSurvey (c : Chan) (next : SurveyState) (s : State) : State :=
  let r := (s.chan c).survey.result
  (s.modSurvey c fun v => { v.clearProgress with last := r, state := next }).judgeJam c r

/-- R164, R165: the phase's sample ends; in cycle 7 the result is formed (R166). -/
def State.sampleEnds (c : Chan) (s : State) : State :=
  let s1 := s.modSurvey c fun v => { v with sample := .none }
  if (s.chan c).survey.state = .running ∧ (s.chan c).survey.cycle = 7 then s1.concludeSurvey c .armed else s1

/-- R165: the running maximum after a sample of level `l` at phase `p`; an equal level leaves the earlier phase. -/
def RunMax.take (m : Option RunMax) (l p : Nat) : Option RunMax :=
  match m with
  | none => some { level := l, phase := p }
  | some m => if m.level < l then some { level := l, phase := p } else some m

/-- R165: an outstanding sample is settled as sampled with a level. -/
def State.sampleTaken (c : Chan) (l p : Nat) (s : State) : State :=
  (s.modSurvey c fun v => { v with count := v.count + 1, runMax := RunMax.take v.runMax l p }).sampleEnds c

/-- R167, R168: the survey error condition is judged and the survey starts or restarts: ERROR where it holds, else
`ok`. -/
def State.startSurvey (c : Chan) (ok : SurveyState) (s : State) : State :=
  if surveyErrorCondition (s.chan c).period (s.chan c).config.blank then
    (s.modSurvey c fun v => { v.clearProgress with state := .error, error := true }).attend (.surveyError c)
  else s.modSurvey c fun v => { v.clearProgress with state := ok, error := false }

/-- R168: the survey stops; the last result and the jammed flag are kept. -/
def State.stopSurvey (c : Chan) (s : State) : State :=
  s.modSurvey c fun v => { v.clearProgress with state := .off, error := false }

/-- R163: what the unit does at a cycle start. -/
def State.surveyCycle (c : Chan) (s : State) : State :=
  match (s.chan c).survey.state with
  | .armed => s.modSurvey c fun v => { v.clearProgress with state := .running }
  | .running =>
    if (s.chan c).survey.cycle < 7 then
      s.modSurvey c fun v => { v with sample := .none, cycle := v.cycle + 1 }
    else s.concludeSurvey c .running
  | .off => s
  | .error => s

/-- R164: the survey judges phase `p` at its instant `t`. -/
def State.surveyPhase (c : Chan) (p : Phase) (t : Instant) (s : State) : State :=
  if (s.chan c).survey.state = .running ∧ (s.chan c).survey.cycle = p.val then
    if ((s.chan c).occupancy.get p).isSome then s.sampleEnds c
    else s.modSurvey c fun v => { v with sample := .waiting t ((s.chan c).deadline t) }
  else s

/-- R164, R165: whether a channel's sample is lost as its records stand: an outstanding one meets a transmission, or the
sampling moment of a waiting one is known and later than the deadline (notes/assumptions/18.md). -/
def Channel.sampleLost (ch : Channel) : Bool :=
  match ch.survey.sample with
  | .none => false
  | .outstanding _ _ => ch.tx != .idle
  | .waiting t d => ch.tx == .idle && d < ch.samplingMoment t

end Sys2Proof.Machine
end

