-- ==== Sys2Proof/Machine/Arbiter.lean ====
section
/-! DEFINITION. The Downlink Arbiter: the pending transmit set with the heads of the notice queues (R48, R128, R135), the
effective floor (R130), resolution (R131, R132), the hand-over (R66, R133), and what a report does (R127). -/

namespace Sys2Proof.Machine

/-! ### The pending transmit set of a channel -/

/-- R135: the head of the channel notice queue is the channel source's request. -/
def Channel.noticeRequest (ch : Channel) : List Request :=
  match ch.notices with
  | [] => []
  | n :: _ =>
    match n.body with
    | .registered _ => [{ source := .channel, kind := .registered, body := .plain }]
    | .notice _ => [{ source := .channel, kind := .notice, body := .plain }]

/-- R48: whether a group's NOTICE request stands at a phase source of a channel. -/
def State.noticeAt (s : State) (c : Chan) (p : Phase) : Bool :=
  match (s.chan c).occupancy.get p with
  | none => false
  | some i =>
    match s.group i with
    | none => false
    | some g => g.channel == c && g.phase == p && !g.notices.isEmpty

/-- R48: the NOTICE requests at the phase sources of a channel. -/
def State.noticeRequests (s : State) (c : Chan) : List Request :=
  (phases.filter fun p => s.noticeAt c p).map fun p => { source := .phase p, kind := .notice, body := .plain }

/-- R128: the pending transmit set of a channel, the heads of the notice queues included. -/
def State.pendingSet (s : State) (c : Chan) : List Request :=
  (s.chan c).reqs ++ (s.chan c).noticeRequest ++ s.noticeRequests c

/-! ### Resolution -/

/-- R130: the floor that a request of a kind is judged against. -/
def Channel.floorFor (ch : Channel) (k : ReqKind) : Nat :=
  match k with
  | .talkGrant => ch.config.floor
  | .talkClose => ch.config.floor
  | _ => if ch.talk.isSome then max ch.config.floor 5 else ch.config.floor

/-- R130: whether a request is eligible. -/
def Channel.eligible (ch : Channel) (r : Request) : Bool := ch.floorFor r.kind < r.kind.level

/-- R132: of two requests of one source, the one of the higher level, or at one level the one first in the kind
order. -/
def Request.before (r q : Request) : Bool :=
  q.kind.level < r.kind.level || (r.kind.level == q.kind.level && r.kind.place < q.kind.place)

/-- R132: the better of a candidate so far and a request of the same source. -/
def betterAtSource (best : Option Request) (r : Request) : Option Request :=
  match best with
  | none => some r
  | some b => if r.before b then some r else some b

/-- R132: a source's candidate among the eligible requests. -/
def candidate (l : List Request) (src : Source) : Option Request :=
  (l.filter fun r => r.source == src).foldl betterAtSource none

/-- R132: the walk's best so far after a source's candidate; it is replaced only by a strictly higher level. -/
def betterInChain (best cand : Option Request) : Option Request :=
  match best, cand with
  | none, c => c
  | some b, none => some b
  | some b, some c => if b.kind.level < c.kind.level then some c else some b

/-- R132: the winner of a walk of the resolution chain over a set of eligible requests. -/
def walk (l : List Request) : Option Request := chain.foldl (fun best src => betterInChain best (candidate l src)) none

/-- R131: whether a channel's arbiter may hand a request to the transmitter: IDLE or VOICE, and the line READY. -/
def Channel.mayHandOver (ch : Channel) : Bool := ch.inFlight.isNone && ch.ready

/-- R131, R132: the request that a resolution of the channel would choose. -/
def State.winner (s : State) (c : Chan) : Option Request :=
  if (s.chan c).mayHandOver then walk ((s.pendingSet c).filter (s.chan c).eligible) else none

/-! ### Missed polls -/

/-- R68: whether a miss of a radio is exempt. -/
def State.missExempt (s : State) (g : Group) (r : Radio) (role : Role) : Bool :=
  s.holdsFloor g.channel r || (role != .loco && g.gate && g.loco.motion == .standing)

/-- R73 to R75: what follows when a counted miss takes a member to level 0. -/
def State.levelZero (i : SlotId) (g : Group) (r : Radio) (role : Role) (s : State) : State :=
  match role with
  | .loco => s.addCause i .locoLink
  | .leader => s.addCause i .leaderLink
  | .crew => if (s.chan g.channel).survey.jammed then s else s.loseMember i r

/-- R68: a counted miss of a member that stands at level `n + 1`. -/
def State.countMiss (i : SlotId) (g : Group) (r : Radio) (role : Role) (n : Nat) (s : State) : State :=
  let s1 := s.modGroup i fun g => g.setLevel r n role
  let s2 := if s.device.warn < n + 1 ∧ n ≤ s.device.warn then s1.mark i else s1
  let s3 := s2.judgeWarn i
  if n = 0 then s3.levelZero i g r role else s3

/-- R65, R66, R68: an open answer window closes as missed and the miss is judged. -/
def State.closeMissed (i : SlotId) (s : State) : State :=
  match s.group i with
  | none => s
  | some g =>
    match g.window with
    | none => s
    | some w =>
      let s1 := s.modGroup i fun g => { g with window := none }
      match g.roleOf w.target with
      | none => s1
      | some role =>
        if s.missExempt g w.target role then s1
        else
          match g.levelOf w.target role with
          | 0 => s1
          | n + 1 => s1.countMiss i g w.target role n

/-! ### The hand-over -/

/-- R60: the poll target of the next beat. -/
def Group.pollTarget (g : Group) : Radio :=
  if g.position = 1 then g.leader.radio
  else if g.position = 2 then
    match g.crew with
    | [] => g.loco.radio
    | m :: _ =>
      let k := match g.pointer with
        | none => 0
        | some n => (n + 1) % g.crew.length
      ((g.crew[k]?).getD m).radio
  else g.loco.radio

/-- R48: the radio a group notice is addressed to as it leaves. -/
def Group.destination (g : Group) (d : NoticeTo) : Radio :=
  match d with
  | .leader => g.leader.radio
  | .radio r => r

/-- The record of a frame that leaves a source with content, address and call number. -/
def Request.frame (r : Request) (owner : Option SlotId) (a : Address) (call : Nat) (x : Content) : Frame :=
  { source := r.source, kind := r.kind, owner := owner, awaited := true, address := a, call := call, content := x }

/-- R133: the frame of a request at a phase source, formed from the group's record as it stands. -/
def Request.groupFrame (r : Request) (i : SlotId) (g : Group) (now : Instant) : Frame :=
  match r.kind, r.body with
  | .beat, _ => r.frame (some i) (.group g.call) g.call (.beat g.pollTarget g.position)
  | .halt, .oldHalt => r.frame (some i) (.group g.call) g.call (.oldHalt g.causes)
  | .halt, _ => r.frame (some i) (.group g.call) g.call (.halt g.pollTarget g.position g.causes)
  | .relay, _ =>
    match g.order with
    | none => r.frame (some i) (.radio g.loco.radio) g.call .empty
    | some o => r.frame (some i) (.radio g.loco.radio) g.call (.relay o.order)
  | .ease, .ease v d => r.frame (some i) (.radio g.loco.radio) g.call (.ease v d)
  | .attach, .attach l => r.frame (some i) (.radio g.loco.radio) g.call (.attach l)
  | .attach, _ => r.frame (some i) (.radio g.loco.radio) g.call (.attach g.leader.radio)
  | .release, _ => r.frame (some i) (.group g.call) g.call .release
  | .move, _ =>
    match g.move with
    | none => r.frame (some i) (.group g.call) g.call .empty
    | some m => r.frame (some i) (.group g.call) g.call (.move g.channel ((m.expiry - now) / 1000))
  | .notice, _ =>
    match g.notices with
    | [] => r.frame (some i) (.group g.call) g.call .empty
    | n :: _ => r.frame (some i) (.radio (g.destination n.dest)) g.call (.groupNotice n)
  | _, _ => r.frame (some i) (.group g.call) g.call .empty

/-- R145: the call number of the group of a floor's holder. -/
def State.callOf (s : State) (r : Radio) : Nat :=
  match s.memberPlace r with
  | none => 0
  | some (i, _) => ((s.group i).map (·.call)).getD 0

/-- R133, R136, R145, R180: the frame of a request at the channel source. The radio that a TALK-CLOSE names was fixed when
it was raised; its call number field is that radio's group as it stands at this hand-over, and again at the one that
follows a TX REFUSED (notes/assumptions/13.md). -/
def State.channelFrameOf (s : State) (c : Chan) (r : Request) : Frame :=
  match r.kind, r.body with
  | .restart, _ => r.frame none .broadcast 0 (.restart c)
  | .release, .retired call => r.frame none (.group call) call .release
  | .talkClose, .closing x => r.frame none .broadcast (s.callOf x) (.talkClose x)
  | .talkGrant, _ =>
    match (s.chan c).talk with
    | none => r.frame none .broadcast 0 .empty
    | some h => r.frame none .broadcast (s.callOf h.radio) (.talkGrant h.radio)
  | .notice, _ =>
    match (s.chan c).notices with
    | [] => r.frame none .broadcast 0 .empty
    | n :: _ => r.frame none (.radio n.radio) n.call (.channelNotice n)
  | .registered, _ =>
    match (s.chan c).notices with
    | [] => r.frame none .broadcast 0 .empty
    | n :: _ => r.frame none (.radio n.radio) n.call (.channelNotice n)
  | _, _ => r.frame none .broadcast 0 .empty

/-- R66: whether the hand-over of a request is the hand-over of a beat. -/
def Request.isBeat (r : Request) : Bool := r.kind == .beat || (r.kind == .halt && r.body != .oldHalt)

/-- R133: the chosen request leaves the pending transmit set; the head of a notice queue leaves its queue. -/
def State.takeRequest (c : Chan) (r : Request) (s : State) : State :=
  match r.kind, r.source with
  | .notice, .phase p =>
    match (s.chan c).occupancy.get p with
    | none => s
    | some i => s.modGroup i fun g => { g with notices := g.notices.tail }
  | .notice, .channel => s.modChan c fun ch => { ch with notices := ch.notices.tail }
  | .registered, _ => s.modChan c fun ch => { ch with notices := ch.notices.tail }
  | _, _ => s.withdraw c r.source r.kind

/-- The slot whose group owns a source. -/
def State.ownerOf (s : State) (c : Chan) (src : Source) : Option SlotId :=
  match src with
  | .channel => none
  | .phase p => (s.chan c).occupancy.get p

/-- R66: the hand-over of a beat first closes the group's open window as missed. -/
def State.beforeHandOver (c : Chan) (r : Request) (s : State) : State :=
  if r.isBeat then
    match s.ownerOf c r.source with
    | none => s
    | some i => s.closeMissed i
  else s

/-- R133: the frame of the chosen request, from the state right before it leaves its queue (`s0`, for a notice) and
right after its window was judged (`s`, for everything else). -/
def State.frameOf (s0 s : State) (c : Chan) (r : Request) : Frame :=
  match s.ownerOf c r.source with
  | none => s0.channelFrameOf c r
  | some i =>
    match (if r.kind = .notice then s0 else s).group i with
    | none => s0.channelFrameOf c r
    | some g => r.groupFrame i g s.now

/-- R133: the hand-over of the chosen request, which is out of the set while the group's window is judged
(notes/assumptions/5.md). -/
def State.handOver (c : Chan) (r : Request) (s : State) : State :=
  let s1 := (s.takeRequest c r).beforeHandOver c r
  s1.modChan c fun ch => { ch with inFlight := some (s.frameOf s1 c r) }

/-! ### Reports -/

/-- R61: the rotation after a transmitted beat that was handed over at position `pos` and polled `target`. -/
def Group.advance (g : Group) (target : Radio) (pos : Nat) : Group :=
  { g with
    position := (g.position + 1) % 3
    pointer := if pos = 2 then (match g.crew.findIdx? fun m => m.radio == target with
      | some k => some k
      | none => g.pointer) else g.pointer }

/-- R58: whether a beat's report acts in this state. -/
def GroupState.beats : GroupState → Bool
  | .active => true
  | .degraded => true
  | .halt => true
  | .opening => false
  | .releasing => false

/-- R63: a window opens for the poll target of a beat sent on channel `c`, if it is still a member. -/
def State.openWindow (c : Chan) (i : SlotId) (target : Radio) (s : State) : State :=
  match s.group i with
  | none => s
  | some g =>
    if g.state.beats ∧ (g.roleOf target).isSome then
      s.modGroup i fun g =>
        { g with window := some { target := target, expiry := s.now + (s.chan c).config.answerWindow } }
    else s

/-- R58, R61, R63: TX DONE for a beat. -/
def State.beatDone (c : Chan) (i : SlotId) (target : Radio) (pos : Nat) (s : State) : State :=
  match s.group i with
  | none => s
  | some g =>
    if g.state.beats then
      let s1 := (s.modGroup i fun g => { g with dropped := 0 }).removeCause i .starved
      let s2 := s1.modGroup i fun g => g.advance target pos
      (s2.closeMissed i).openWindow c i target
    else s

/-- R58: TX REFUSED for a beat counts as dropped. -/
def State.beatRefused (i : SlotId) (s : State) : State :=
  match s.group i with
  | none => s
  | some g => if g.state.beats then s.dropBeat i else s

/-- R26, R42: TX DONE for an ATTACH or a group's RELEASE. -/
def State.waitSent (i : SlotId) (k : WaitKind) (s : State) : State :=
  s.modGroup i fun g =>
    match g.wait with
    | none => g
    | some w =>
      if w.kind = k ∧ w.expiry.isNone then
        { g with wait := some { kind := k, expiry := some (s.now + s.device.ackTimeout) } }
      else g

/-- R26, R42: TX REFUSED for an ATTACH or a group's RELEASE: the request is raised again with the same content. -/
def State.waitRefused (i : SlotId) (k : WaitKind) (rk : ReqKind) (b : ReqBody) (s : State) : State :=
  match s.group i with
  | none => s
  | some g =>
    match g.wait with
    | none => s
    | some w =>
      if w.kind = k ∧ w.expiry.isNone then s.raise g.channel (.phase g.phase) rk b else s

/-- R104: whether a report on a RELAY of sequence `seq` acts: the order in flight has this sequence, is PENDING, and is
on the air. -/
def State.relayAwaited (s : State) (g : Group) (seq : Nat) : Bool :=
  match g.order with
  | none => false
  | some o => o.order.seq == seq && o.expiry.isNone && !s.isPending g.channel (.phase g.phase) .relay

/-- R104: TX DONE or TX REFUSED for a RELAY. -/
def State.relayReport (i : SlotId) (seq : Nat) (done : Bool) (s : State) : State :=
  match s.group i with
  | none => s
  | some g =>
    if s.relayAwaited g seq then
      if done then
        s.modGroup i fun g =>
          { g with order := g.order.map fun o => { o with expiry := some (s.now + s.device.ackTimeout) } }
      else s.raise g.channel (.phase g.phase) .relay .plain
    else s

/-- R158: the report on an old-channel HALT frees the old phase where that frame is the final one. -/
def State.oldHaltReport (c : Chan) (i : SlotId) (src : Source) (s : State) : State :=
  match s.group i with
  | none => s
  | some g =>
    match g.finalHalt with
    | none => s
    | some h =>
      if h.chan = c ∧ src = .phase h.phase then
        (s.modGroup i fun g => { g with finalHalt := none }).freePhase h.chan h.phase
      else s

/-- R152: TX REFUSED for a MOVE frame raises it again while the move record is present. -/
def State.moveRefused (c : Chan) (i : SlotId) (src : Source) (s : State) : State :=
  match s.group i with
  | none => s
  | some g =>
    match g.move with
    | none => s
    | some m =>
      if m.oldChan = c ∧ src = .phase m.oldPhase then s.raise c src .move .plain else s

/-- R127: what TX DONE does for a frame at a phase source. -/
def State.groupDone (c : Chan) (i : SlotId) (f : Frame) (s : State) : State :=
  match f.kind, f.content with
  | .beat, .beat target pos => s.beatDone c i target pos
  | .halt, .halt target pos _ => s.beatDone c i target pos
  | .halt, .oldHalt _ => s.oldHaltReport c i f.source
  | .relay, .relay o => s.relayReport i o.seq true
  | .attach, _ => s.waitSent i .attach
  | .release, _ => s.waitSent i .release
  | _, _ => s

/-- R127: what TX REFUSED does for a frame at a phase source. -/
def State.groupRefused (c : Chan) (i : SlotId) (f : Frame) (s : State) : State :=
  match f.kind, f.content with
  | .beat, _ => s.beatRefused i
  | .halt, .halt _ _ _ => s.beatRefused i
  | .halt, .oldHalt _ => s.oldHaltReport c i f.source
  | .relay, .relay o => s.relayReport i o.seq false
  | .attach, .attach l => s.waitRefused i .attach .attach (.attach l)
  | .release, _ => s.waitRefused i .release .release .plain
  | .ease, _ => s.modGroup i fun g => { g with approach := g.approach.map fun a => { a with latch := false } }
  | .notice, .groupNotice n => s.modGroup i fun g => { g with notices := putBack g.notices n }
  | .move, _ => s.moveRefused c i f.source
  | _, _ => s

/-- R127, R135, R136, R145: what TX REFUSED does for a frame at the channel source; TX DONE starts nothing for any of
them. A refused RELEASE takes the place of a later one that is pending (notes/assumptions/23.md). -/
def State.channelRefused (c : Chan) (f : Frame) (s : State) : State :=
  match f.kind, f.content with
  | .restart, _ => s.raise c .channel .restart .plain
  | .release, _ => s.raise c .channel .release (.retired f.call)
  | .talkGrant, .talkGrant r => if s.holdsFloor c r then s.raise c .channel .talkGrant .plain else s
  | .talkClose, .talkClose r =>
    if s.isPending c .channel .talkClose then s else s.raise c .channel .talkClose (.closing r)
  | _, .channelNotice n => s.modChan c fun ch => { ch with notices := putBack ch.notices n }
  | _, _ => s

/-- R127: the requester acts on the outcome. -/
def State.outcome (c : Chan) (f : Frame) (done : Bool) (s : State) : State :=
  if f.awaited then
    match f.source, f.owner with
    | .channel, _ => if done then s else s.channelRefused c f
    | .phase _, some i => if done then s.groupDone c i f else s.groupRefused c i f
    | .phase _, none => s
  else s

/-- R125, R127: a modem report ends the frame in flight, and the outcome goes to its requester; with no frame in flight
it is ignored. -/
def State.report (c : Chan) (done : Bool) (s : State) : State :=
  match (s.chan c).inFlight with
  | none => s
  | some f =>
    (s.modChan c fun ch =>
      { ch with
        inFlight := none
        lastTxEnd := if ch.talk.isNone then some s.now else ch.lastTxEnd }).outcome c f done

end Sys2Proof.Machine
end

