-- ==== Sys2Proof/Machine/Finish.lean ====
section
/-! DEFINITION. The end of a command. A command is whole and indivisible (95_what_each_step_holds.md): once it has raised
its requests and changed its records, samples that a transmission has cost are settled (R164, R165), the standing
pairings are examined where an event called for it (R30), and every arbiter that may hand over a request resolves
(R131), until nothing is left to do (notes/assumptions/4.md). -/

namespace Sys2Proof.Machine

/-- The lowest channel whose sample is lost as the records stand (R164, R165). -/
def State.lostSample (s : State) : Option Chan := channels.find? fun c => (s.chan c).sampleLost

/-- R131: the lowest channel whose arbiter has a winner, with its winner. -/
def State.nextHandOver (s : State) : Option (Chan × Request) :=
  channels.findSome? fun c => (s.winner c).map fun r => (c, r)

/-- One thing that is left to do at the end of a command. -/
def State.settleOne (s : State) : Option State :=
  match s.lostSample with
  | some c => some (s.sampleEnds c)
  | none =>
    if s.examine then some { s with examine := false }.examinePairings
    else
      match s.nextHandOver with
      | some (c, r) => some (s.handOver c r)
      | none => none

/-- At most `n` of them. -/
def State.settle : Nat → State → State
  | 0, s => s
  | n + 1, s =>
    match s.settleOne with
    | none => s
    | some s' => State.settle n s'

/-- The end of a command. There are at most eight hand-overs (one for each channel), eight samples, and one examination
after each of them and one before. -/
def State.finish (s : State) : State := s.settle 40

/-- A command at instant `t` with effect `f`. -/
def event (t : Instant) (f : State → State) (s : State) : Host.Outcome State Fault Refusal :=
  .next (f (s.tick t)).finish

end Sys2Proof.Machine
end

