-- ==== Sys2Proof/Machine/SettingsOps.lean ====
section
/-! DEFINITION. Writes of settings (R185, R194, R195, R123, R196). Each write is a function of the state that also says
whether a value was adjusted; SET-CHANNEL, SET-DEVICE and the reload at FALLBACK entry (R178) share them. -/

namespace Sys2Proof.Machine

/-- A channel setting with the value written (R194), in the order of its table. -/
inductive ChannelWrite where
  | jamOn (v : Nat)
  | jamOff (v : Nat)
  | blank (v : Nat)
  | survey (on : Bool)
  | answerWindow (v : Nat)
  | talkWindow (v : Nat)
  | floor (v : Nat)
  | defaultArea (a : Area)
  | period (v : Nat)
  | mode (m : ChanMode)
  deriving DecidableEq, Repr

/-- A device setting with the value written (R195), in the order of its table. `silence` is the raw field, 255 for
OFF. -/
inductive DeviceWrite where
  | warn (v : Nat)
  | regExpiry (v : Nat)
  | joinTimeout (v : Nat)
  | ackTimeout (v : Nat)
  | moveWindow (v : Nat)
  | bandShift (v : Nat)
  | easeTol (v : Nat)
  | haltExcess (v : Nat)
  | silence (v : Nat)
  | startup (v : Nat)
  | policy (p : Policy)
  deriving DecidableEq, Repr

/-! ### Channel settings -/

/-- Changes a channel's settings in force. -/
def State.modConfig (c : Chan) (f : ChannelConfig → ChannelConfig) (s : State) : State :=
  s.modChan c fun ch => { ch with config := f ch.config }

/-- R161: jam-on; a value below the present jam-off lowers jam-off with it (notes/assumptions/16.md). -/
def State.writeJamOn (c : Chan) (v : Nat) (s : State) : State × Bool :=
  (s.modConfig c fun g => { g with jamOn := min v 63, jamOff := min g.jamOff (min v 63) },
    decide (63 < v) || decide (min v 63 < (s.chan c).config.jamOff))

/-- R161: jam-off, judged against the jam-on in force. -/
def State.writeJamOff (c : Chan) (v : Nat) (s : State) : State × Bool :=
  (s.modConfig c fun g => { g with jamOff := min v g.jamOn }, decide ((s.chan c).config.jamOn < v))

/-- R161, R168: the blank time; a change restarts a survey that is not OFF. -/
def State.setBlank (c : Chan) (v : Nat) (s : State) : State :=
  if (s.chan c).config.blank = v then s
  else
    let s1 := s.modConfig c fun g => { g with blank := v }
    if (s.chan c).survey.state = .off then s1 else s1.startSurvey c .armed

def State.writeBlank (c : Chan) (v : Nat) (s : State) : State × Bool :=
  (s.setBlank c (clampStep 5 200 1 v).1, (clampStep 5 200 1 v).2)

/-- R168: the survey setting; on an OFF channel the state stays OFF. -/
def State.setSurvey (c : Chan) (on : Bool) (s : State) : State :=
  if (s.chan c).config.survey = on then s
  else
    let s1 := s.modConfig c fun g => { g with survey := on }
    if on then (if (s.chan c).mode = .live then s1.startSurvey c .armed else s1) else s1.stopSurvey c

/-- R63. -/
def State.writeAnswerWindow (c : Chan) (v : Nat) (s : State) : State × Bool :=
  (s.modConfig c fun g => { g with answerWindow := (clampStep 60 300 10 v).1 }, (clampStep 60 300 10 v).2)

/-- R137. -/
def State.writeTalkWindow (c : Chan) (v : Nat) (s : State) : State × Bool :=
  (s.modConfig c fun g => { g with talkWindow := (clampStep 2 30 1 v).1 }, (clampStep 2 30 1 v).2)

/-- R130: the channel floor; the arbiter resolves at the end of the command. -/
def State.writeFloor (c : Chan) (v : Nat) (s : State) : State × Bool :=
  (s.modConfig c fun g => { g with floor := min v 7 }, decide (7 < v))

/-- R52: a period on an OFF channel is current at once; on a LIVE one it becomes the pending period, or removes it where
it equals the current one. -/
def Channel.setPeriod (ch : Channel) (v : Nat) : Channel :=
  match ch.mode with
  | .off => { ch with period := v, pendingPeriod := none }
  | .live => { ch with pendingPeriod := if v = ch.period then none else some v }

def State.writePeriod (c : Chan) (v : Nat) (s : State) : State × Bool :=
  (s.modChan c fun ch => ch.setPeriod (clampStep 400 3200 50 v).1, (clampStep 400 3200 50 v).2)

/-- R50, R168: an OFF channel becomes LIVE; this instant is its epoch, and its survey, if on, is judged at it. -/
def State.turnLive (c : Chan) (s : State) : State :=
  let s1 := s.modChan c fun ch =>
    { ch with mode := .live, epoch := some s.now, cycleStart := s.now, reached := 0 }
  if (s.chan c).config.survey then s1.startSurvey c .running else s1

/-- R51, R168: a LIVE channel that no group holds a phase of becomes OFF; the report on a frame in flight starts
nothing. -/
def State.turnOff (c : Chan) (s : State) : State :=
  (s.modChan c fun ch =>
    { ch with
      mode := .off
      epoch := none
      period := ch.pendingPeriod.getD ch.period
      pendingPeriod := none
      reqs := []
      notices := []
      inFlight := ch.inFlight.map fun f => { f with awaited := false } }).stopSurvey c

/-- R51: whether a group holds a phase of the channel. -/
def Channel.phaseHeld (ch : Channel) : Bool := phases.any fun p => (ch.occupancy.get p).isSome

/-- R50, R51: a write of the mode; a mode that stands changes nothing, an OFF that R51 refuses neither. -/
def State.writeMode (c : Chan) (m : ChanMode) (s : State) : State :=
  match m, (s.chan c).mode with
  | .live, .live => s
  | .off, .off => s
  | .live, .off => s.turnLive c
  | .off, .live => if (s.chan c).phaseHeld then s else s.turnOff c

/-- R194: a write of one channel setting. -/
def State.writeChannel (c : Chan) (w : ChannelWrite) (s : State) : State × Bool :=
  match w with
  | .jamOn v => s.writeJamOn c v
  | .jamOff v => s.writeJamOff c v
  | .blank v => s.writeBlank c v
  | .survey on => (s.setSurvey c on, false)
  | .answerWindow v => s.writeAnswerWindow c v
  | .talkWindow v => s.writeTalkWindow c v
  | .floor v => s.writeFloor c v
  | .defaultArea a => (s.modConfig c fun g => { g with defaultArea := a }, false)
  | .period v => s.writePeriod c v
  | .mode m => (s.writeMode c m, false)

/-! ### Device settings -/

/-- Changes the device settings in force. -/
def State.modDevice (f : DeviceSettings → DeviceSettings) (s : State) : State := { s with device := f s.device }

/-- R70: whether a level stands on the other side of one threshold than of the other. -/
def crosses (old new level : Nat) : Bool := (level ≤ old : Bool) != (level ≤ new : Bool)

/-- R70: whether some member's level stands on the other side of the new threshold. -/
def Group.crossed (g : Group) (old new : Nat) : Bool :=
  crosses old new g.loco.level || crosses old new g.leader.level || g.crew.any fun m => crosses old new m.level

/-- R70: marks a slot whose group has a member on the other side. -/
def State.markCrossed (old new : Nat) (s : State) (i : SlotId) : State :=
  match s.group i with
  | none => s
  | some g => if g.crossed old new then s.mark i else s

/-- R70: a changed warn threshold marks the groups it finds crossed and applies R71 and R72 to every group. -/
def State.setWarn (v : Nat) (s : State) : State :=
  if s.device.warn = v then s
  else
    let s1 := slotIds.foldl (State.markCrossed s.device.warn v) (s.modDevice fun d => { d with warn := v })
    slotIds.foldl (fun s i => s.judgeWarn i) s1

/-- R7: a changed expiry time removes every unpinned entry that is due under it. -/
def State.setRegExpiry (v : Nat) (s : State) : State :=
  if s.device.regExpiry = v then s
  else
    let s1 := s.modDevice fun d => { d with regExpiry := v }
    { s1 with table := s1.table.filter fun e => !(e.pinned.isNone && s1.entryDue e) }

/-- R124: T; one that reaches H raises H to T + 1 (notes/assumptions/16.md). -/
def State.writeEaseTol (v : Nat) (s : State) : State × Bool :=
  (s.modDevice fun d => { d with easeTol := min v 50, haltExcess := max d.haltExcess (min v 50 + 1) },
    decide (50 < v) || decide (s.device.haltExcess ≤ min v 50))

/-- R195: a write of one device setting. -/
def State.writeDevice (w : DeviceWrite) (s : State) : State × Bool :=
  match w with
  | .warn v => (s.setWarn (clampStep 1 6 1 v).1, (clampStep 1 6 1 v).2)
  | .regExpiry v => (s.setRegExpiry (clampStep 10 600 1 v).1, (clampStep 10 600 1 v).2)
  | .joinTimeout v => (s.modDevice fun d => { d with joinTimeout := (clampStep 5 30 1 v).1 }, (clampStep 5 30 1 v).2)
  | .ackTimeout v =>
    (s.modDevice fun d => { d with ackTimeout := (clampStep 500 4000 10 v).1 }, (clampStep 500 4000 10 v).2)
  | .moveWindow v => (s.modDevice fun d => { d with moveWindow := (clampStep 2 20 1 v).1 }, (clampStep 2 20 1 v).2)
  | .bandShift v => (s.modDevice fun d => { d with bandShift := (clampStep 4 10 1 v).1 }, (clampStep 4 10 1 v).2)
  | .easeTol v => s.writeEaseTol v
  | .haltExcess v =>
    (s.modDevice fun d => { d with haltExcess := (clampStep (d.easeTol + 1) 100 1 v).1 },
      (clampStep (s.device.easeTol + 1) 100 1 v).2)
  | .silence v => (s.modDevice fun d => { d with silence := (silenceOf v).1 }, (silenceOf v).2)
  | .startup v => (s.modDevice fun d => { d with startup := (clampStep 0 60 1 v).1 }, (clampStep 0 60 1 v).2)
  | .policy p => (s.modDevice fun d => { d with policy := p }, false)

/-! ### Several writes, the curve, the pairings -/

/-- R194, R195: writes in order; the flag says whether any value was adjusted (R185). -/
def writeAll {α : Type} (w : α → State → State × Bool) : List α → State → State × Bool
  | [], s => (s, false)
  | x :: xs, s =>
    let r := w x s
    let q := writeAll w xs r.1
    (q.1, r.2 || q.2)

/-- R123: the curve after values are written to consecutive entries from `first`; a value above 400 is written as 400
and values past C[31] are not written. -/
def loadCurve (curve : Vector Nat 32) (first : Nat) (values : List Nat) : Vector Nat 32 :=
  Vector.ofFn fun i =>
    if first ≤ i.val then
      match values[i.val - first]? with
      | some v => min v 400
      | none => curve.get i
    else curve.get i

/-- R123: whether a LOAD-CURVE adjusts a value or leaves one unwritten (notes/assumptions/26.md). -/
def curveClamped (first : Nat) (values : List Nat) : Bool :=
  values.any (fun v => 400 < v) || (!values.isEmpty && decide (32 < first + values.length))

/-- R31, R196: a pairing is written, and its hold released. -/
def State.writePairing (k : PairingId) (q : Pairing) (s : State) : State :=
  { s with pairings := s.pairings.set k { pairing := q, held := false } }

/-- R175: the settings in force and the standing pairings, as STORE copies them; a pending beat period counts as the one
in force (notes/assumptions/15.md). -/
def State.inForce (s : State) : Profile where
  channels := Vector.ofFn fun c =>
    { mode := (s.chan c).mode, period := (s.chan c).pendingPeriod.getD (s.chan c).period, config := (s.chan c).config }
  device := s.device
  pairings := Vector.ofFn fun k => (s.pairings.get k).pairing

end Sys2Proof.Machine
end

