-- ==== Sys2Proof/Machine/Modes.lean ====
section
/-! DEFINITION. Device modes (R171 to R174), the reload and the entry into FALLBACK (R178), the resets (R176, R179 to
R181). -/

namespace Sys2Proof.Machine

/-! ### FALLBACK -/

/-- R178: a channel's part of a profile as the writes that R194's table orders. -/
def ChannelProfile.writes (p : ChannelProfile) : List ChannelWrite :=
  [.jamOn p.config.jamOn, .jamOff p.config.jamOff, .blank p.config.blank, .survey p.config.survey,
    .answerWindow p.config.answerWindow, .talkWindow p.config.talkWindow, .floor p.config.floor,
    .defaultArea p.config.defaultArea, .period p.period, .mode p.mode]

/-- R178: device settings as the writes that R195's table orders. -/
def DeviceSettings.writes (d : DeviceSettings) : List DeviceWrite :=
  [.warn d.warn, .regExpiry d.regExpiry, .joinTimeout d.joinTimeout, .ackTimeout d.ackTimeout,
    .moveWindow d.moveWindow, .bandShift d.bandShift, .easeTol d.easeTol, .haltExcess d.haltExcess,
    .silence (d.silence.getD 255), .startup d.startup, .policy d.policy]

/-- R178: reloads one channel's settings. -/
def State.reloadChannel (p : Profile) (s : State) (c : Chan) : State :=
  (writeAll (State.writeChannel c) (p.channels.get c).writes s).1

/-- R31, R176, R178: the pairings of a profile, with every hold released. -/
def Profile.heldPairings (p : Profile) : Vector HeldPairing 8 :=
  Vector.ofFn fun k => { pairing := p.pairings.get k, held := false }

/-- R178, step 2: each setting applied as a host write of its value would be, channels first, then the device settings,
the curve and the pairings (notes/assumptions/17.md). -/
def State.reload (p : Profile) (s : State) : State :=
  let s1 := channels.foldl (State.reloadChannel p) s
  let s2 := (writeAll State.writeDevice p.device.writes s1).1
  { s2.modDevice fun d => { d with curve := p.device.curve } with pairings := p.heldPairings }

/-- R178: what FALLBACK entry reloads: the values being stored, the valid profile, or the built-in defaults. -/
def State.reloadSource (s : State) : Profile :=
  match s.storing with
  | some p => p
  | none => if s.profileValid then s.profile else builtinProfile

/-- R176, R178: whether the reload defaults. -/
def State.defaults (s : State) : Bool := s.storing.isNone && !s.profileValid

/-- R95, R97: CONTROL is added to every group, in slot order. -/
def State.controlAll (s : State) : State := slotIds.foldl (fun s i => s.addCause i .control) s

/-- R178: the entry into FALLBACK, steps 1 to 4; step 5 follows at the end of the command. -/
def State.enterFallback (s : State) : State :=
  let s1 := { s with mode := .fallback, startupExpiry := none, silenceSince := none }
  let s2 := s1.reload s.reloadSource
  let s3 := if s.defaults then s2.attend .profileDefaulted else s2
  let s4 := if s3.device.policy = .haltAll then s3.controlAll else s3
  { s4.attend .fallback with examine := true }

/-- R172: the startup timer expires in STARTUP. -/
def State.startupExpires (s : State) : State :=
  if s.mode = .startup ∧ s.startupExpiry.any (fun e => e ≤ s.now) then s.enterFallback else s

/-- STARTUP TIMER EXPIRY (R172, R178). -/
def execStartupTimerExpiry (t : Instant) (s : State) : Host.Outcome State Fault Refusal :=
  event t (fun s => s.startupExpires) s

/-- R173: whether the silence limit has passed without a command frame. -/
def State.silent (s : State) : Bool :=
  match s.device.silence, s.silenceSince with
  | some m, some t => decide (t + silenceMs m ≤ s.now)
  | _, _ => false

/-- R173: the host-silence expiry, in OPERATE. -/
def State.silenceExpires (s : State) : State := if s.mode = .operate ∧ s.silent then s.enterFallback else s

/-- HOST SILENCE EXPIRY (R173, R178). -/
def execHostSilenceExpiry (t : Instant) (s : State) : Host.Outcome State Fault Refusal :=
  event t (fun s => s.silenceExpires) s

/-! ### BEGIN and RECONNECT -/

/-- R172, R174: the mode becomes OPERATE; the startup timer stops and the silence measurement starts. -/
def State.operate (s : State) : State :=
  { s with mode := .operate, startupExpiry := none, silenceSince := some s.now }

/-! ### Resets -/

/-- R176: the profile that a reset loads. -/
def State.loaded (s : State) : Profile := if s.profileValid then s.profile else builtinProfile

/-- R181: whether an item is a reset cause. -/
def AttnItem.isResetCause : AttnItem → Bool
  | .power => true
  | .line => true
  | .command => true
  | _ => false

/-- R181: what a reset keeps of the attention set. -/
def keptAttention (k : AttnItem) (l : List AttnItem) : List AttnItem :=
  if k = .power then [] else l.filter AttnItem.isResetCause

/-- R167: the SURVEY ERROR items that the reset's judgement sets. -/
def Profile.errorItems (p : Profile) : List AttnItem :=
  (Sys2Proof.channels.filter fun c => (Survey.afterReset (p.channels.get c)).error).map .surveyError

/-- R181: the attention set after a reset of cause `k` that loads `p`. -/
def attentionAfter (k : AttnItem) (p : Profile) (valid : Bool) (l : List AttnItem) : List AttnItem :=
  (p.errorItems ++ (if valid then [] else [AttnItem.profileDefaulted]) ++ [k]).foldr attnAdd (keptAttention k l)

/-- R176, R179 to R181: a reset of cause `k` with the levels `a` and `b` present on the area lines. The profile, the
clock and the queue of commands stay. -/
def State.resetWith (k : AttnItem) (a b : Bool) (s : State) : State where
  now := s.now
  mode := .startup
  startupExpiry := startupExpiryFrom s.loaded.device s.now
  silenceSince := none
  attention := attentionAfter k s.loaded s.profileValid s.attention
  profile := s.profile
  profileValid := s.profileValid
  storing := none
  slots := Vector.replicate 40 Slot.fresh
  table := []
  chans := Vector.ofFn fun c => Channel.afterReset (s.loaded.channels.get c) s.now
  device := s.loaded.device
  pairings := s.loaded.heldPairings
  areaA := a
  areaB := b
  response := none
  examine := false
  pending := s.pending

/-- POWER RESET (R176, R179 to R181). -/
def execPowerReset (t : Instant) (a b : Bool) (s : State) : Host.Outcome State Fault Refusal :=
  event t (fun s => s.resetWith .power a b) s

/-- LINE RESET (R176, R179 to R181). -/
def execLineReset (t : Instant) (a b : Bool) (s : State) : Host.Outcome State Fault Refusal :=
  event t (fun s => s.resetWith .line a b) s

end Sys2Proof.Machine
end

