-- ==== Sys2Proof/Machine/HostPort.lean ====
section
/-! DEFINITION. The host port: transactions and the response holding place (R183), the judgement of a command frame
(R184, R171, R177), the responses' lengths and headers (11, "Host port frames"), the naming of a group (R191, R197). -/

namespace Sys2Proof.Machine

/-! ### Responses -/

/-- The status byte of a response header. -/
def Status.code : Status → Nat
  | .done => 0
  | .clamped => 1
  | .refused _ => 2
  | .busy => 3
  | .fallback => 4
  | .malformed => 5

/-- The reason byte of a response header: coded from 1, 0 where the status is not REFUSED. -/
def Status.reasonCode : Status → Nat
  | .refused .inUse => 1
  | .refused .full => 2
  | .refused .state => 3
  | .refused .unknown => 4
  | .refused .wrongChannel => 5
  | .refused .kind => 6
  | .refused .notFound => 7
  | _ => 0

/-- The bytes of a slot's read-out: a FREE slot three, a group record 67 (11, "The group record read-out"). -/
def Readout.size : Readout → Nat
  | .free _ _ => 3
  | .group _ => 67

/-- The bytes of a payload: none for a response without one, the read-out's for a POLL that returns a slot and for a
READ-GROUP of a group (its byte 8 holds the changed mark), free elsewhere (notes/assumptions/11.md). -/
def Payload.size (p : Payload) : Nat :=
  match p with
  | .none => 0
  | .poll (some r) => r.size
  | .readGroup (.group v) _ => (Readout.group v).size
  | p => Config.payloadBytes p

/-- The length of a whole response: the header's six bytes and the payload. -/
def Response.length (r : Response) : Nat := 6 + r.payload.size

/-- The six bytes of a response header. -/
def Response.header (r : Response) : List Nat :=
  [r.code, r.status.code, r.status.reasonCode, (if r.priorUnread then 1 else 0), r.length / 256 % 256, r.length % 256]

/-- R183, step 1: a transaction of `n` bytes that lasts at least the held response's length makes it read. -/
def State.collect (n : Nat) (s : State) : State :=
  { s with response := s.response.map fun r => if r.length ≤ n then { r with read := true } else r }

/-- R183, step 2: whether the held response is unread. -/
def State.unread (s : State) : Bool := s.response.any fun r => !r.read

/-- R183, step 2: a response replaces the held one. -/
def State.answer (code : Nat) (st : Status) (p : Payload) (s : State) : State :=
  { s with response := some { code := code, status := st, priorUnread := s.unread, payload := p, read := false } }

/-- R173, R184: a command frame restarts the host-silence measurement in OPERATE. -/
def State.hostHeard (s : State) : State :=
  if s.mode = .operate then { s with silenceSince := some s.now } else s

/-- A transaction of `n` bytes at instant `t` that carries a command frame, up to its judgement. -/
def State.begun (t : Instant) (n : Nat) (s : State) : State := ((s.tick t).collect n).hostHeard

/-! ### The judgement of a command frame -/

/-- R171: the mode rule's classes of commands. -/
inductive ModeRule where
  | everyMode
  | beginRule
  | reconnectRule
  | operateAlone
  | notInFallback
  deriving DecidableEq, Repr

/-- R171: what the mode rule answers; `none` where it takes the command. -/
def ModeRule.judge (k : ModeRule) (m : DeviceMode) : Option Status :=
  match k, m with
  | .everyMode, _ => none
  | .beginRule, .startup => none
  | .beginRule, .operate => some (.refused .state)
  | .beginRule, .fallback => some .fallback
  | .reconnectRule, .fallback => none
  | .reconnectRule, _ => some (.refused .state)
  | .operateAlone, .startup => some (.refused .state)
  | .operateAlone, .operate => none
  | .operateAlone, .fallback => some .fallback
  | .notInFallback, .fallback => some .fallback
  | .notInFallback, _ => none

/-- A command of the port: its code, its frame's length, its mode rule, and whether it is taken during a STORE (11; R171,
R177). -/
structure HostCommand where
  code : Nat
  length : Nat
  rule : ModeRule
  duringStore : Bool := false
  deriving DecidableEq, Repr

/-- R184, steps 1 to 3, for a frame whose header states its command's length in a transaction of `n` bytes. -/
def HostCommand.judge (k : HostCommand) (n : Nat) (s : State) : Option Status :=
  if n < k.length then some .malformed
  else if s.storing.isSome ∧ ¬ k.duringStore then some .busy
  else k.rule.judge s.mode

/-- R184, steps 4 and 5: refused; answered from the records with at most a mark cleared; or carried out, with the payload
formed from the records as they stand at the end (notes/assumptions/20.md). -/
inductive Verdict where
  | refused (r : Reason) (p : Payload)
  | read (s : State) (p : Payload)
  | taken (s : State) (clamped : Bool) (p : State → Payload)

/-- The state and the response of a verdict on a state. -/
def Verdict.apply (v : Verdict) (code : Nat) (s : State) : State :=
  match v with
  | .refused r p => s.answer code (.refused r) p
  | .read u p => u.answer code .done p
  | .taken u clamped p => u.finish.answer code (if clamped then .clamped else .done) (p u.finish)

/-- R183, R184: a transaction of `n` bytes at instant `t` that carries a frame of command `k`. A frame answered at steps
1 to 4 has no effect on any record but the holding place and the silence measurement. -/
def hostFrame (k : HostCommand) (t : Instant) (n : Nat) (body : State → Verdict) (s : State) :
    Host.Outcome State Fault Refusal :=
  match k.judge n (s.begun t n) with
  | some st => .next ((s.begun t n).answer k.code st .none)
  | none => .next ((body (s.begun t n)).apply k.code (s.begun t n))

/-! ### Fields of a frame -/

/-- The first refusal of a list of field judgements (R197). -/
def firstRefusal (l : List (Option Reason)) : Option Reason := l.findSome? id

/-- R197: a field that must hold a value it stands for. -/
def need {α : Type} (x : Option α) (r : Reason) : Option Reason := if x.isSome then none else some r

/-- R197: the selector and the number of a command that acts on one group. -/
def groupFieldJudge (g : GroupField) : Option Reason :=
  match g.selector with
  | 0 => need (slotOf g.number) .notFound
  | 1 => if validCall g.number then none else some .notFound
  | _ => some .kind

/-- R191: the slot that a selector and a number name. -/
def State.namedSlot (s : State) (g : GroupField) : Option SlotId :=
  match g.selector with
  | 0 => slotOf g.number
  | _ => s.slotOfCall g.number

/-- R191, R197: a command on one group, after the field refusals of `fields`; a FREE slot or a call number not in use is
not found. -/
def State.onGroup (s : State) (g : GroupField) (fields : List (Option Reason)) (act : SlotId → Group → Verdict) :
    Verdict :=
  match firstRefusal (groupFieldJudge g :: fields) with
  | some r => .refused r .none
  | none =>
    match s.namedSlot g with
    | none => .refused .notFound .none
    | some i =>
      match s.group i with
      | none => .refused .notFound .none
      | some x => act i x

/-! ### Filler and malformed frames -/

/-- FILLER TRANSACTION (R183): no command; the held response may become read. -/
def execFillerTransaction (t : Instant) (n : Nat) (s : State) : Host.Outcome State Fault Refusal :=
  .next ((s.tick t).collect n)

/-- MALFORMED FRAME (R184, step 1): a code that names no command, a wrong length, or a transaction that ends early. A
code of 0 is filler (R197; notes/assumptions/27.md). -/
def execMalformedFrame (t : Instant) (n : Nat) (code _stated : Nat) (s : State) : Host.Outcome State Fault Refusal :=
  if code = 0 then .next ((s.tick t).collect n) else .next ((s.begun t n).answer code .malformed .none)

end Sys2Proof.Machine
end

