-- ==== Sys2Proof/Machine/HostGroups.lean ====
section
/-! DEFINITION. The host commands that act on groups and channels in service (R24, R25, R40 to R45, R94 to R96, R147,
R149 to R151, R191 to R193). -/

namespace Sys2Proof.Machine

/-! ### OPEN, DISBAND, RETIRE -/

/-- OPEN's channel field: 255 is ANY (R197). The outer `none` is a field that names no channel. -/
def openChanOf (n : Nat) : Option (Option Chan) := if n = 255 then some none else (chanOf n).map some

/-- R24, R197: the opening that an OPEN names, and whether its wagon length was adjusted. -/
def openingOf (a : OpenArgs) : Except Reason (Opening × Bool) :=
  match validCall a.call, openChanOf a.channel, openAreaOf a.area, onOffOf a.gate with
  | false, _, _, _ => .error .notFound
  | true, none, _, _ => .error .notFound
  | true, some _, none, _ => .error .kind
  | true, some _, some _, none => .error .kind
  | true, some c, some area, some gate =>
    .ok ({ call := a.call, loco := a.loco, leader := a.leader, channel := c, area := area,
           wagon := (clampStep 100 300 1 a.wagon).1, gate := gate, pairing := none },
      (clampStep 100 300 1 a.wagon).2)

/-- R24, R25, R192: OPEN. -/
def State.openBody (a : OpenArgs) (s : State) : Verdict :=
  match openingOf a with
  | .error r => .refused r .none
  | .ok (o, clamped) =>
    match s.openCheck o with
    | .error r => .refused r .none
    | .ok (i, c, p) => .taken (s.openGroup o i c p) clamped fun _ => .opened i c p

/-- OPEN (code 9; R24, R25, R192). -/
def execOpenGroup (t : Instant) (n : Nat) (a : OpenArgs) (s : State) : Host.Outcome State Fault Refusal :=
  hostFrame { code := 9, length := 15, rule := .operateAlone } t n (State.openBody a) s

/-- R40, R41, R192: DISBAND. -/
def State.disbandBody (g : GroupField) (s : State) : Verdict :=
  s.onGroup g [] fun i x =>
    if x.disbandable then .taken (s.startRelease i) false fun _ => .slot i else .refused .state .none

/-- DISBAND (code 10; R40, R41, R192). -/
def execDisband (t : Instant) (n : Nat) (g : GroupField) (s : State) : Host.Outcome State Fault Refusal :=
  hostFrame { code := 10, length := 5, rule := .notInFallback } t n (State.disbandBody g) s

/-- R45: the outcome of a host retirement. -/
def Group.retireOutcome (g : Group) : SlotOutcome :=
  if g.causes.locoLink && g.causes.leaderLink then .crewOnly else .forced

/-- R45: a host retirement with its RELEASE frame at the channel source. -/
def State.hostRetire (i : SlotId) (g : Group) (s : State) : State :=
  (s.retire i g.retireOutcome).raise g.channel .channel .release (.retired g.call)

/-- R45, R192: RETIRE. -/
def State.retireBody (g : GroupField) (s : State) : Verdict :=
  s.onGroup g [] fun i x => .taken (s.hostRetire i x) false fun _ => .retired i x.retireOutcome

/-- RETIRE (code 11; R44, R45, R192). -/
def execRetire (t : Instant) (n : Nat) (g : GroupField) (s : State) : Host.Outcome State Fault Refusal :=
  hostFrame { code := 11, length := 5, rule := .notInFallback } t n (State.retireBody g) s

/-! ### MOVE -/

/-- R149: the checks of a MOVE after the first, in order; what they give is the new phase. -/
def State.moveCheck (s : State) (g : Group) (c : Chan) : Except Reason Phase :=
  if ¬ (g.state = .active ∨ g.state = .degraded ∨ g.state = .halt) then .error .state
  else if g.wait.isSome then .error .state
  else if g.move.isSome ∨ g.finalHalt.isSome then .error .state
  else if c = g.channel then .error .state
  else if ¬ (s.chan c).usable then .error .state
  else
    match (s.chan c).freePhase with
    | none => .error .full
    | some p => .ok p

/-- R151: the group's requests at the old phase's source: a BEAT is withdrawn, a HALT is kept as an old-channel HALT, an
EASE is raised again on the target. -/
def State.disposeOld (c : Chan) (p : Phase) (c' : Chan) (p' : Phase) (s : State) : State :=
  let s1 := s.withdraw c (.phase p) .beat
  let s2 := if s.isPending c (.phase p) .halt then s1.raise c (.phase p) .halt .oldHalt else s1
  match reqsFind (.phase p) .ease (s.chan c).reqs with
  | none => s2
  | some r => (s2.withdraw c (.phase p) .ease).raise c' (.phase p') .ease r.body

/-- R148, R150, step 2: the move record of a group that leaves its channel. -/
def Group.moveRecord (g : Group) (expiry : Instant) : MoveRecord :=
  { oldChan := g.channel, oldPhase := g.phase, expiry := expiry, checked := [] }

/-- R150: a taken MOVE, steps 1 to 9. -/
def State.startMove (i : SlotId) (g : Group) (c : Chan) (p : Phase) (s : State) : State :=
  let s1 := s.takePhase c p i
  let s2 := s1.modGroup i fun x => { x with move := some (g.moveRecord (s.now + 1000 * s.device.moveWindow)) }
  let s3 := s2.discardOrder i
  let s4 := s3.withdrawGroup [g.channel] g.radios
  let s5 := s4.modGroup i fun x => { x with channel := c, phase := p }
  let s6 := s5.disposeOld g.channel g.phase c p
  let s7 := s6.raise g.channel (.phase g.phase) .move .plain
  (s7.settleDeferred i).mark i

/-- R149, R150, R193: MOVE. -/
def State.moveBody (g : GroupField) (target : Nat) (s : State) : Verdict :=
  s.onGroup g [need (chanOf target) .notFound] fun i x =>
    match chanOf target with
    | none => .refused .notFound .none
    | some c =>
      match s.moveCheck x c with
      | .error r => .refused r .none
      | .ok p => .taken (s.startMove i x c p) false fun _ => .moved i c p

/-- MOVE (code 12; R149 to R151, R193). -/
def execMoveGroup (t : Instant) (n : Nat) (g : GroupField) (target : Nat) (s : State) :
    Host.Outcome State Fault Refusal :=
  hostFrame { code := 12, length := 6, rule := .operateAlone } t n (State.moveBody g target) s

/-! ### Areas and stops -/

/-- R94: a new area and its judgement; the group's present area changes nothing. -/
def State.changeArea (i : SlotId) (g : Group) (area : Area) (s : State) : State :=
  if g.area = area then s
  else
    let s1 := s.modGroup i fun x => { x with area := area }
    if s.areaAsserted area then s1.addCause i .area
    else if s.areaAsserted g.area then s1.removeCause i .area
    else s1

/-- R94, R193: SET-AREA. -/
def State.setAreaBody (g : GroupField) (area : Nat) (s : State) : Verdict :=
  s.onGroup g [need (areaOf area) .kind] fun i x =>
    match areaOf area with
    | none => .refused .kind .none
    | some ar => .taken (s.changeArea i x ar) false fun _ => .area i ar

/-- SET-AREA (code 13; R94, R193). -/
def execSetArea (t : Instant) (n : Nat) (g : GroupField) (area : Nat) (s : State) : Host.Outcome State Fault Refusal :=
  hostFrame { code := 13, length := 6, rule := .notInFallback } t n (State.setAreaBody g area) s

/-- R193: a slot's halt-cause set after a command. -/
def State.causesOf (s : State) (i : SlotId) : Causes := ((s.group i).map (·.causes)).getD {}

/-- R95, R193: HALT-GROUP. -/
def State.haltGroupBody (g : GroupField) (s : State) : Verdict :=
  s.onGroup g [] fun i _ => .taken (s.addCause i .control) false fun u => .causes i (u.causesOf i)

/-- HALT-GROUP (code 14; R95, R193). -/
def execHaltGroup (t : Instant) (n : Nat) (g : GroupField) (s : State) : Host.Outcome State Fault Refusal :=
  hostFrame { code := 14, length := 5, rule := .notInFallback } t n (State.haltGroupBody g) s

/-- R193: the number of groups that hold CONTROL, or that do not. -/
def State.countControl (s : State) (held : Bool) : Nat :=
  (slotIds.filter fun i => (s.group i).any fun g => g.causes.control == held).length

/-- ALL-HALT (code 15; R95, R193). -/
def execAllHalt (t : Instant) (n : Nat) (s : State) : Host.Outcome State Fault Refusal :=
  hostFrame { code := 15, length := 3, rule := .notInFallback } t n
    (fun s => .taken s.controlAll false fun _ => .count (s.countControl false)) s

/-- R96: CONTROL leaves every group that holds it, in slot order. -/
def State.releaseAll (s : State) : State := slotIds.foldl (fun s i => s.removeCause i .control) s

/-- R96, R193: RELEASE-HALT, naming one group or ALL. -/
def State.releaseHaltBody (g : GroupField) (s : State) : Verdict :=
  if g.selector = 2 then .taken s.releaseAll false fun _ => .count (s.countControl true)
  else s.onGroup g [] fun i _ => .taken (s.removeCause i .control) false fun u => .causes i (u.causesOf i)

/-- RELEASE-HALT (code 16; R96, R193). -/
def execReleaseHalt (t : Instant) (n : Nat) (g : GroupField) (s : State) : Host.Outcome State Fault Refusal :=
  hostFrame { code := 16, length := 5, rule := .notInFallback } t n (State.releaseHaltBody g) s

/-- R147, R193: FLOOR-CLEAR. -/
def State.floorClearBody (channel : Nat) (s : State) : Verdict :=
  match chanOf channel with
  | none => .refused .notFound .none
  | some c => .taken (s.clearFloor c) false fun _ => .none

/-- FLOOR-CLEAR (code 17; R147, R193). -/
def execFloorClear (t : Instant) (n : Nat) (channel : Nat) (s : State) : Host.Outcome State Fault Refusal :=
  hostFrame { code := 17, length := 4, rule := .notInFallback } t n (State.floorClearBody channel) s

end Sys2Proof.Machine
end

