-- ==== Sys2Proof/Machine/ReadOut.lean ====
section
/-! DEFINITION. What the port returns of the records: the group record read-out (R198) with its bytes, the STATUS report
(R188). -/

namespace Sys2Proof.Machine

/-! ### Codes (11: coded from 0 in the order listed) -/

def GroupState.code : GroupState → Nat
  | .opening => 0
  | .active => 1
  | .degraded => 2
  | .halt => 3
  | .releasing => 4

/-- The state byte of a FREE slot. -/
def freeCode : Nat := 5

def SlotOutcome.code : SlotOutcome → Nat
  | .none => 0
  | .openFailed => 1
  | .disbanded => 2
  | .forced => 3
  | .crewOnly => 4

def Area.code : Area → Nat
  | .none => 0
  | .a => 1
  | .b => 2

def Motion.code : Motion → Nat
  | .standing => 0
  | .moving => 1
  | .unknown => 2

/-- A mask whose first place is its least significant bit (notes/assumptions/12.md). -/
def maskOf : List Bool → Nat
  | [] => 0
  | b :: bs => (if b then 1 else 0) + 2 * maskOf bs

/-- The halt-cause byte. -/
def Causes.mask (c : Causes) : Nat :=
  maskOf [c.locoLink, c.leaderLink, c.area, c.overspeed, c.stopUnconfirmed, c.starved, c.control, c.releaseLost]

/-- The acknowledgement wait's byte. -/
def waitCode : Option AckWait → Nat
  | none => 0
  | some w =>
    match w.kind, w.expiry with
    | .attach, none => 1
    | .attach, some _ => 2
    | .release, none => 3
    | .release, some _ => 4

/-! ### The read-out -/

/-- R99, R198: the relay state's code: PENDING waiting, PENDING on the air, SENT. -/
def relayCode (o : OrderInFlight) (waiting : Bool) : Nat :=
  match o.expiry with
  | some _ => 2
  | none => if waiting then 0 else 1

/-- R198: crew places 0 to 3; one beyond the count reads 0. -/
def Group.places (g : Group) : List Member :=
  [0, 1, 2, 3].map fun k => (g.crew[k]?).getD { radio := 0, level := 0 }

/-- R198: the checked-in marks of the loco, the leader and crew places 0 to 3. -/
def Group.checkedMarks (g : Group) : List Bool :=
  match g.move with
  | none => [false, false, false, false, false, false]
  | some m =>
    m.checked.contains g.loco.radio :: m.checked.contains g.leader.radio
      :: [0, 1, 2, 3].map fun k => (g.crew[k]?).any fun x => m.checked.contains x.radio

/-- R198: the presence byte's places. -/
def Group.presenceMarks (g : Group) : List Bool :=
  [g.loco.speed.isSome, g.loco.odometer.isSome, g.order.isSome, g.lastConfirmed.isSome, g.unconfirmed.isSome,
    g.approach.isSome, g.join.isSome, g.move.isSome]

/-- R198: the read-out of a group record at `now`; `waiting` says whether its RELAY is pending. -/
def Group.readout (g : Group) (i : SlotId) (changed waiting : Bool) (now : Instant) : GroupReadout where
  slot := i
  state := g.state
  call := g.call
  channel := g.channel
  phase := g.phase
  area := g.area
  wagon := g.wagon
  gate := g.gate
  latch := g.approach.any (·.latch)
  finalHalt := g.finalHalt.isSome
  changed := changed
  presence := g.presenceMarks
  locoRadio := g.loco.radio
  locoLevel := g.loco.level
  motion := g.loco.motion
  speed := g.loco.speed.getD 0
  odometer := g.loco.odometer.getD 0
  leaderRadio := g.leader.radio
  leaderLevel := g.leader.level
  crewCount := g.crew.length
  crewPlaces := g.places
  position := g.position
  pointer := g.pointer.getD 255
  windowTarget := (g.window.map (·.target)).getD 0
  dropped := g.dropped
  causes := g.causes
  wait := waitCode g.wait
  orderKind := (g.order.map (·.order.kind.code)).getD 0
  orderArg := (g.order.map (·.order.arg)).getD 0
  orderSeq := (g.order.map (·.order.seq)).getD 0
  orderRelay := (g.order.map fun o => relayCode o waiting).getD 0
  confirmedKind := (g.lastConfirmed.map (·.kind.code)).getD 0
  confirmedArg := (g.lastConfirmed.map (·.arg)).getD 0
  unconfirmed := g.unconfirmed.getD 0
  d0 := (g.approach.map (·.d0)).getD 0
  ref := (g.approach.map (·.ref)).getD 0
  joinRadio := (g.join.map (·.radio)).getD 0
  oldChan := (g.move.map (·.oldChan.val)).getD 0
  oldPhase := (g.move.map (·.oldPhase.val)).getD 0
  checkedMarks := g.checkedMarks
  secondsLeft := (g.move.map fun m => (m.expiry - now) / 1000).getD 0
  noticeCount := g.notices.length

/-- R189, R190, R198: the read-out of a slot as it stands. -/
def State.readout (s : State) (i : SlotId) : Readout :=
  match (s.slot i).body with
  | .free o => .free i o
  | .held g => .group (g.readout i (s.slot i).changed (s.isPending g.channel (.phase g.phase) .relay) s.now)

/-! ### Its bytes -/

def bytes2 (n : Nat) : List Nat := [n / 256 % 256, n % 256]

def bytes3 (n : Nat) : List Nat := [n / 65536 % 256, n / 256 % 256, n % 256]

/-- A crew place: radio and level. -/
def Member.bytes (m : Member) : List Nat := bytes3 m.radio ++ [m.level]

/-- Bytes 0 to 9. -/
def GroupReadout.head (r : GroupReadout) : List Nat :=
  [r.slot.val, r.state.code, r.call, r.channel.val, r.phase.val, r.area.code] ++ bytes2 r.wagon
    ++ [maskOf [r.gate, r.latch, r.finalHalt, r.changed], maskOf r.presence]

/-- Bytes 10 to 23. -/
def GroupReadout.members (r : GroupReadout) : List Nat :=
  bytes3 r.locoRadio ++ [r.locoLevel, r.motion.code] ++ bytes2 r.speed ++ bytes2 r.odometer ++ bytes3 r.leaderRadio
    ++ [r.leaderLevel, r.crewCount]

/-- Bytes 40 to 54. -/
def GroupReadout.supervision (r : GroupReadout) : List Nat :=
  [r.position, r.pointer] ++ bytes3 r.windowTarget
    ++ [r.dropped, r.causes.mask, r.wait, r.orderKind, r.orderArg, r.orderSeq, r.orderRelay, r.confirmedKind,
      r.confirmedArg, r.unconfirmed]

/-- Bytes 55 to 66. -/
def GroupReadout.tail (r : GroupReadout) : List Nat :=
  bytes2 r.d0 ++ bytes2 r.ref ++ bytes3 r.joinRadio
    ++ [r.oldChan, r.oldPhase, maskOf r.checkedMarks, r.secondsLeft, r.noticeCount]

/-- The bytes of a slot's read-out, in the layout of 11 ("The group record read-out"). -/
def Readout.bytes : Readout → List Nat
  | .free i o => [i.val, freeCode, o.code]
  | .group r => r.head ++ r.members ++ r.crewPlaces.flatMap Member.bytes ++ r.supervision ++ r.tail

/-! ### STATUS -/

/-- R188: what STATUS returns of a channel. -/
def State.channelStatus (s : State) (c : Chan) : ChannelStatus where
  mode := (s.chan c).mode
  ready := (s.chan c).ready
  period := (s.chan c).period
  pendingPeriod := (s.chan c).pendingPeriod
  occupancy := phases.map fun p => (s.chan c).occupancy.get p
  tx := (s.chan c).tx
  requests := (s.pendingSet c).length
  noticeFrames := (s.chan c).notices.length
  holder := (s.chan c).talk.map (·.radio)
  queue := (s.chan c).talkQueue
  survey := (s.chan c).survey.state
  surveyError := (s.chan c).survey.error
  jammed := (s.chan c).survey.jammed

/-- R188: what STATUS returns. -/
def State.statusReport (s : State) : StatusReport where
  mode := s.mode
  storeBusy := s.storing.isSome
  attention := s.attention
  anyChanged := s.anyChanged
  nonFree := (slotIds.filter fun i => (s.group i).isSome).length
  entries := s.table.length
  areaA := s.areaA
  areaB := s.areaB
  channels := Sys2Proof.channels.map s.channelStatus
  pairings := pairingIds.map fun k => s.pairings.get k

end Sys2Proof.Machine
end

