-- ==== Sys2Proof/Machine/HostReads.lean ====
section
/-! DEFINITION. The host commands that move the controller between its modes (R186), act on the profile and the attention
set (R187) and read the controller (R188 to R190). -/

namespace Sys2Proof.Machine

/-! ### Modes -/

/-- BEGIN (code 1; R172, R186). -/
def execBeginOperate (t : Instant) (n : Nat) (s : State) : Host.Outcome State Fault Refusal :=
  hostFrame { code := 1, length := 3, rule := .beginRule } t n (fun s => .taken s.operate false fun _ => .none) s

/-- RECONNECT (code 2; R174, R186). -/
def execReconnect (t : Instant) (n : Nat) (s : State) : Host.Outcome State Fault Refusal :=
  hostFrame { code := 2, length := 3, rule := .reconnectRule } t n (fun s => .taken s.operate false fun _ => .none) s

/-- RESET (code 3; R179, R186): a COMMAND reset; the held levels of the area lines are the levels present on them
(notes/assumptions/8.md). -/
def execResetCommand (t : Instant) (n : Nat) (s : State) : Host.Outcome State Fault Refusal :=
  hostFrame { code := 3, length := 3, rule := .everyMode } t n
    (fun s => .taken (s.resetWith .command s.areaA s.areaB) false fun _ => .none) s

/-! ### Reads -/

/-- STATUS (code 4; R188): taken in every mode and during a STORE. -/
def execStatus (t : Instant) (n : Nat) (s : State) : Host.Outcome State Fault Refusal :=
  hostFrame { code := 4, length := 3, rule := .everyMode, duringStore := true } t n
    (fun s => .read s (.status s.statusReport)) s

/-- R189: the lowest-numbered slot whose changed mark is set. -/
def State.firstChanged (s : State) : Option SlotId := slotIds.find? fun i => (s.slot i).changed

/-- R189: clears a slot's changed mark. -/
def State.clearMark (i : SlotId) (s : State) : State := s.setSlot i { (s.slot i) with changed := false }

/-- R189: a POLL; the read-out shows the mark as it stood before. -/
def State.pollBody (s : State) : Verdict :=
  match s.firstChanged with
  | none => .read s (.poll none)
  | some i => .read (s.clearMark i) (.poll (some (s.readout i)))

/-- POLL (code 5; R189). -/
def execPoll (t : Instant) (n : Nat) (s : State) : Host.Outcome State Fault Refusal :=
  hostFrame { code := 5, length := 3, rule := .everyMode } t n State.pollBody s

/-- R190: READ-GROUP; a named FREE slot is answered with its outcome. -/
def State.readGroupBody (g : GroupField) (s : State) : Verdict :=
  match groupFieldJudge g with
  | some r => .refused r .none
  | none =>
    match s.namedSlot g with
    | none => .refused .notFound .none
    | some i => .read s (.readGroup (s.readout i) (s.slot i).changed)

/-- READ-GROUP (code 6; R190). -/
def execReadGroup (t : Instant) (n : Nat) (g : GroupField) (s : State) : Host.Outcome State Fault Refusal :=
  hostFrame { code := 6, length := 5, rule := .everyMode } t n (State.readGroupBody g) s

/-- R190: the place in the table of a radio's entry. -/
def State.entryIndex (s : State) (r : Radio) : Option Nat := s.table.findIdx? fun e => e.radio == r

/-- R190: READ-REG by a place in table order. -/
def State.readRegAt (k : Option Nat) (s : State) : Verdict :=
  match k with
  | none => .refused .notFound (.entries s.table.length)
  | some k =>
    match s.table[k]? with
    | none => .refused .notFound (.entries s.table.length)
    | some e => .read s (.readReg e k s.table.length)

/-- R190, R197: READ-REG; its selector names a radio or a position. -/
def State.readRegBody (selector number : Nat) (s : State) : Verdict :=
  match selector with
  | 0 => s.readRegAt (s.entryIndex number)
  | 1 => s.readRegAt (some number)
  | _ => .refused .kind .none

/-- READ-REG (code 7; R190). -/
def execReadReg (t : Instant) (n : Nat) (selector number : Nat) (s : State) : Host.Outcome State Fault Refusal :=
  hostFrame { code := 7, length := 7, rule := .everyMode } t n (State.readRegBody selector number) s

/-- R190: SURVEY-READ. -/
def State.surveyReadBody (channel : Nat) (s : State) : Verdict :=
  match chanOf channel with
  | none => .refused .notFound .none
  | some c =>
    .read s (.surveyRead (s.chan c).survey.state (s.chan c).survey.last (s.chan c).survey.cycle
      (s.chan c).survey.runMax (s.chan c).survey.count)

/-- SURVEY-READ (code 8; R190). -/
def execSurveyRead (t : Instant) (n : Nat) (channel : Nat) (s : State) : Host.Outcome State Fault Refusal :=
  hostFrame { code := 8, length := 4, rule := .everyMode } t n (State.surveyReadBody channel) s

/-! ### The profile and the attention set -/

/-- R177: a taken STORE copies the values in force and clears the valid mark. -/
def State.startStore (s : State) : State := { s with storing := some s.inForce, profileValid := false }

/-- STORE (code 22; R177, R187). -/
def execStore (t : Instant) (n : Nat) (s : State) : Host.Outcome State Fault Refusal :=
  hostFrame { code := 22, length := 3, rule := .notInFallback } t n (fun s => .taken s.startStore false fun _ => .none) s

/-- R181: removes the attention items that a mask names. -/
def State.clearItems (mask : Nat) (s : State) : State := { s with attention := attnClear mask s.attention }

/-- CLEAR-ATTENTION (code 23; R181, R187). -/
def execClearAttention (t : Instant) (n : Nat) (mask : Nat) (s : State) : Host.Outcome State Fault Refusal :=
  hostFrame { code := 23, length := 6, rule := .notInFallback } t n
    (fun s => .taken (s.clearItems mask) false fun u => .attention u.attention) s

end Sys2Proof.Machine
end

