-- ==== Sys2Proof/Machine/HostSettings.lean ====
section
/-! DEFINITION. The host commands that write settings: SET-CHANNEL (R194), SET-DEVICE (R195), LOAD-CURVE and SET-PAIRING
(R196). -/

namespace Sys2Proof.Machine

/-- The elements of a list whose places a mask fills, the first place at `k`. -/
def masked {α : Type} (mask : Nat) : Nat → List α → List α
  | _, [] => []
  | k, x :: xs => if maskHas mask k then x :: masked mask (k + 1) xs else masked mask (k + 1) xs

/-- R194, R197: the writes that a SET-CHANNEL's fields give, in the order of the table; `none` where a field holds a code
outside its list. -/
def channelWrites (a : SetChannelArgs) : List (Option ChannelWrite) :=
  [some (.jamOn a.jamOn), some (.jamOff a.jamOff), some (.blank a.blank), (onOffOf a.survey).map .survey,
    some (.answerWindow a.answerWindow), some (.talkWindow a.talkWindow), some (.floor a.floor),
    (areaOf a.defaultArea).map .defaultArea, some (.period a.period), (chanModeOf a.mode).map .mode]

/-- R195, R197: the writes that a SET-DEVICE's fields give. -/
def deviceWrites (a : SetDeviceArgs) : List (Option DeviceWrite) :=
  [some (.warn a.warn), some (.regExpiry a.regExpiry), some (.joinTimeout a.joinTimeout),
    some (.ackTimeout a.ackTimeout), some (.moveWindow a.moveWindow), some (.bandShift a.bandShift),
    some (.easeTol a.easeTol), some (.haltExcess a.haltExcess), some (.silence a.silence), some (.startup a.startup),
    (policyOf a.policy).map .policy]

/-- The writes that a mask names; `none` where one of them holds a code outside its list. -/
def namedWrites {α : Type} (mask : Nat) (l : List (Option α)) : Option (List α) :=
  if (masked mask 0 l).all Option.isSome then some ((masked mask 0 l).filterMap id) else none

/-- R194: SET-CHANNEL; an OFF while a phase is held refuses the whole command (R51). -/
def State.setChannelBody (a : SetChannelArgs) (s : State) : Verdict :=
  match chanOf a.channel, namedWrites a.mask (channelWrites a) with
  | none, _ => .refused .notFound .none
  | some _, none => .refused .kind .none
  | some c, some ws =>
    if ws.contains (.mode .off) && (s.chan c).phaseHeld then .refused .state .none
    else .taken (writeAll (State.writeChannel c) ws s).1 (writeAll (State.writeChannel c) ws s).2 fun _ => .none

/-- SET-CHANNEL (code 18; R50 to R52, R130, R161, R168, R194). -/
def execSetChannel (t : Instant) (n : Nat) (a : SetChannelArgs) (s : State) : Host.Outcome State Fault Refusal :=
  hostFrame { code := 18, length := 18, rule := .notInFallback } t n (State.setChannelBody a) s

/-- R195: SET-DEVICE. -/
def State.setDeviceBody (a : SetDeviceArgs) (s : State) : Verdict :=
  match namedWrites a.mask (deviceWrites a) with
  | none => .refused .kind .none
  | some ws => .taken (writeAll State.writeDevice ws s).1 (writeAll State.writeDevice ws s).2 fun _ => .none

/-- SET-DEVICE (code 19; R7, R70, R124, R173, R195). -/
def execSetDevice (t : Instant) (n : Nat) (a : SetDeviceArgs) (s : State) : Host.Outcome State Fault Refusal :=
  hostFrame { code := 19, length := 18, rule := .notInFallback } t n (State.setDeviceBody a) s

/-- R123: the Approach Curve Table takes values. -/
def State.writeCurve (first : Nat) (values : List Nat) (s : State) : State :=
  s.modDevice fun d => { d with curve := loadCurve d.curve first values }

/-- LOAD-CURVE (code 20; R123, R196): a count that does not match the values makes the frame's length wrong (R184). -/
def execLoadCurve (t : Instant) (n : Nat) (first count : Nat) (values : List Nat) (s : State) :
    Host.Outcome State Fault Refusal :=
  if count = values.length then
    hostFrame { code := 20, length := 5 + 2 * count, rule := .notInFallback } t n
      (fun s => .taken (s.writeCurve first values) (curveClamped first values) fun _ => .none) s
  else .next ((s.begun t n).answer 20 .malformed .none)

/-- R196, R197: the field refusals of SET-PAIRING; with loco radio 0 the fields after it are stored unread
(notes/assumptions/14.md). -/
def pairingJudge (a : SetPairingArgs) : Option Reason :=
  if a.loco = 0 then none
  else
    firstRefusal [if validCall a.call then none else some .notFound, need (chanOf a.channel) .notFound,
      need (areaOf a.area) .kind]

/-- The pairing that SET-PAIRING writes. -/
def pairingWritten (a : SetPairingArgs) : Pairing :=
  { call := a.call, loco := a.loco, leader := a.leader, channel := a.channel, area := a.area }

/-- R196: SET-PAIRING. -/
def State.setPairingBody (a : SetPairingArgs) (s : State) : Verdict :=
  match pairingOf a.index with
  | none => .refused .notFound .none
  | some k =>
    match pairingJudge a with
    | some r => .refused r .none
    | none => .taken (s.writePairing k (pairingWritten a)) false fun _ => .none

/-- SET-PAIRING (code 21; R31, R196). -/
def execSetPairing (t : Instant) (n : Nat) (a : SetPairingArgs) (s : State) : Host.Outcome State Fault Refusal :=
  hostFrame { code := 21, length := 13, rule := .notInFallback } t n (State.setPairingBody a) s

end Sys2Proof.Machine
end

