-- ==== Sys2Proof/Machine/Lines.lean ====
section
/-! DEFINITION. The area stop lines (R91 to R93). -/

namespace Sys2Proof.Machine

/-- The area that a line stands for. -/
def areaOfLine : AreaLine → Area
  | .lineA => .a
  | .lineB => .b

/-- R91: the held level of a line takes a value. -/
def State.setLine (l : AreaLine) (b : Bool) (s : State) : State :=
  match l with
  | .lineA => { s with areaA := b }
  | .lineB => { s with areaB := b }

/-- R92: whether a slot's group is mapped to an area's line. -/
def State.mapped (s : State) (area : Area) (i : SlotId) : Bool := (s.group i).any fun g => g.area == area

/-- R92: the slots mapped to an area's line, in slot order. -/
def State.mappedSlots (s : State) (area : Area) : List SlotId := slotIds.filter fun i => s.mapped area i

/-- R92: the channels concerned: a mapped group holds a phase there. -/
def State.concerned (s : State) (area : Area) : List Chan :=
  channels.filter fun c => (s.mappedSlots area).any fun i => s.holdsPhaseOn c i

/-- R92, step 1: a channel's talk queue loses the members of mapped groups. -/
def State.pruneQueue (area : Area) (s : State) (c : Chan) : State :=
  s.modChan c fun ch => { ch with talkQueue := ch.talkQueue.filter fun r =>
    !((s.memberPlace r).any fun p => s.mapped area p.1) }

/-- R92, step 4: the floor that step 2 has cleared passes to the queue. -/
def State.passCleared (held : Chan → Bool) (s : State) (c : Chan) : State := if held c then s.passFloor c else s

/-- R92: the effect of an assertion on groups and floors, steps 1 to 4. -/
def State.areaStop (area : Area) (s : State) : State :=
  let cs := s.concerned area
  let s1 := cs.foldl (State.pruneQueue area) s
  let s2 := cs.foldl (fun s c => s.clearHolder c) s1
  let s3 := (s.mappedSlots area).foldl (fun s i => s.addCause i .area) s2
  cs.foldl (State.passCleared fun c => (s.chan c).talk.isSome) s3

/-- R92: a line becomes asserted; a level equal to the held one is no change (notes/assumptions/25.md). -/
def State.lineAsserted (l : AreaLine) (s : State) : State :=
  if s.areaAsserted (areaOfLine l) then s else (s.setLine l true).areaStop (areaOfLine l)

/-- AREA ASSERTED (R91, R92). -/
def execAreaAsserted (t : Instant) (l : AreaLine) (s : State) : Host.Outcome State Fault Refusal :=
  event t (fun s => s.lineAsserted l) s

/-- R93: a line becomes released; AREA leaves every mapped group, in slot order. -/
def State.lineReleased (l : AreaLine) (s : State) : State :=
  if s.areaAsserted (areaOfLine l) then
    (s.mappedSlots (areaOfLine l)).foldl (fun s i => s.removeCause i .area) (s.setLine l false)
  else s

/-- AREA RELEASED (R91, R93). -/
def execAreaReleased (t : Instant) (l : AreaLine) (s : State) : Host.Outcome State Fault Refusal :=
  event t (fun s => s.lineReleased l) s

end Sys2Proof.Machine
end

