-- ==== Sys2Proof/Machine/Modem.lean ====
section
/-! DEFINITION. The modem's reports: TX DONE, TX REFUSED, READY, NOT READY (R126, R127) and LEVEL (R165). -/

namespace Sys2Proof.Machine

/-- TX DONE (R127): the frame in flight ends, the outcome goes to its requester, and the arbiter resolves. -/
def execTxDone (t : Instant) (c : Chan) (s : State) : Host.Outcome State Fault Refusal :=
  event t (fun s => s.report c true) s

/-- TX REFUSED (R127). -/
def execTxRefused (t : Instant) (c : Chan) (s : State) : Host.Outcome State Fault Refusal :=
  event t (fun s => s.report c false) s

/-- R126: sets the held readiness of a line. -/
def State.setReady (c : Chan) (b : Bool) (s : State) : State := s.modChan c fun ch => { ch with ready := b }

/-- READY (R126): the arbiter resolves at the end of the command if the transmitter is IDLE or VOICE. -/
def execReady (t : Instant) (c : Chan) (s : State) : Host.Outcome State Fault Refusal :=
  event t (fun s => s.setReady c true) s

/-- NOT READY (R126). -/
def execNotReady (t : Instant) (c : Chan) (s : State) : Host.Outcome State Fault Refusal :=
  event t (fun s => s.setReady c false) s

/-- R162, R165, R168, R199: the LEVEL report for the noise-sample request that was sent at `a.requested` settles
the sample that is outstanding from that request; for a sample that was cancelled or skipped it is ignored, whether or not
another one is outstanding by then (notes/assumptions/30.md). -/
def State.takeLevel (c : Chan) (l : Nat) (a : LevelAnswer) (s : State) : State :=
  match (s.chan c).survey.sample with
  | .outstanding p sent =>
    if sent = a.requested then
      match a.mark with
      | .clear => s.sampleTaken c (levelOf l) p
      | .receiving => s.sampleEnds c
    else s
  | _ => s

/-- LEVEL (R165, R166). -/
def execLevel (t : Instant) (c : Chan) (l : Nat) (a : LevelAnswer) (s : State) : Host.Outcome State Fault Refusal :=
  event t (fun s => s.takeLevel c l a) s

end Sys2Proof.Machine
end

