-- ==== Sys2Proof/Machine/Timers.lean ====
section
/-! DEFINITION. The instants and timer expiries. An expiry is taken only when its timer runs and its instant has been
reached; otherwise the event does not happen and the records stay (notes/assumptions/2.md). -/

namespace Sys2Proof.Machine

/-! ### Phase instants and cycle starts -/

/-- R56, R57, R155: a group raises its beat at its phase instant; a beat that is still pending is replaced and counts as
dropped. -/
def State.raiseBeat (i : SlotId) (s : State) : State :=
  match s.group i with
  | none => s
  | some g =>
    if g.state.beats then
      let src : Source := .phase g.phase
      let late := s.isPending g.channel src .beat || s.isPending g.channel src .halt
      let s1 := (s.withdraw g.channel src .beat).withdraw g.channel src .halt
      let s2 :=
        if g.state = .halt then (s1.raise g.channel src .halt .plain).oldChannelHalt i
        else s1.raise g.channel src .beat .plain
      if late then s2.dropBeat i else s2
    else s

/-- R152: at each instant of the old phase the MOVE is raised again while the checked-in set lacks a member. -/
def State.raiseMove (i : SlotId) (c : Chan) (p : Phase) (s : State) : State :=
  match s.group i with
  | none => s
  | some g =>
    match g.move with
    | none => s
    | some m =>
      if m.oldChan = c ∧ m.oldPhase = p ∧ ¬ g.allChecked m then s.raise c (.phase p) .move .plain else s

/-- R56, R152: what the group that holds a phase does at its instant. -/
def State.beatInstant (c : Chan) (p : Phase) (s : State) : State :=
  match (s.chan c).occupancy.get p with
  | none => s
  | some i =>
    match s.group i with
    | none => s
    | some g => if g.channel = c ∧ g.phase = p then s.raiseBeat i else s.raiseMove i c p

/-- R54: whether phase `p`'s instant of the cycle in progress is reached and has not been taken. -/
def Channel.phaseDue (ch : Channel) (now : Instant) (p : Phase) : Bool :=
  ch.mode == .live && ch.reached ≤ p.val && ch.phaseTime p ≤ now

/-- PHASE-INSTANT's effect (R56, R57, R152, R164). -/
def State.phaseInstant (c : Chan) (p : Phase) (s : State) : State :=
  if (s.chan c).phaseDue s.now p then
    let t := (s.chan c).phaseTime p
    ((s.modChan c fun ch => { ch with reached := p.val + 1 }).beatInstant c p).surveyPhase c p t
  else s

/-- PHASE INSTANT (R54 to R57, R152, R155, R164). -/
def execPhaseInstant (t : Instant) (c : Chan) (p : Phase) (s : State) : Host.Outcome State Fault Refusal :=
  event t (fun s => s.phaseInstant c p) s

/-- R53, R167, R168: a pending period becomes current; the survey, if on, is judged, and restarts with this cycle start
as its cycle 0. -/
def State.periodCurrent (c : Chan) (p : Nat) (s : State) : State :=
  let s1 := s.modChan c fun ch => { ch with period := p, pendingPeriod := none }
  if (s.chan c).survey.state = .off then s1 else s1.startSurvey c .running

/-- R53, R163, R168: a cycle start that is reached. Where a period takes effect, the survey's settlement and the period
change are taken in either order (`periodFirst`; notes/assumptions/19.md). -/
def State.cycleStart (c : Chan) (periodFirst : Bool) (s : State) : State :=
  if (s.chan c).mode = .live ∧ (s.chan c).cycleStart + (s.chan c).period ≤ s.now then
    let s1 := s.modChan c fun ch => { ch with cycleStart := ch.cycleStart + ch.period, reached := 0 }
    match (s.chan c).pendingPeriod with
    | none => s1.surveyCycle c
    | some p => if periodFirst then s1.periodCurrent c p else (s1.surveyCycle c).periodCurrent c p
  else s

/-- CYCLE START (R53, R163, R167, R168). -/
def execCycleStart (t : Instant) (c : Chan) (periodFirst : Bool) (s : State) : Host.Outcome State Fault Refusal :=
  event t (fun s => s.cycleStart c periodFirst) s

/-! ### Expiries of the groups' timers -/

/-- R65: the expiry of an open answer window closes it as missed. -/
def State.windowExpiry (i : SlotId) (s : State) : State :=
  if (s.group i).any (fun g => g.window.any fun w => w.expiry ≤ s.now) then s.closeMissed i else s

/-- ANSWER WINDOW EXPIRY (R65, R68). -/
def execAnswerWindowExpiry (t : Instant) (i : SlotId) (s : State) : Host.Outcome State Fault Refusal :=
  event t (fun s => s.windowExpiry i) s

/-- R6: an unpinned entry whose expiry has been reached is removed. -/
def State.registrationExpiry (r : Radio) (s : State) : State :=
  if (s.entry r).any (fun e => e.pinned.isNone && s.entryDue e) then s.dropEntry r else s

/-- REGISTRATION EXPIRY (R6). -/
def execRegistrationExpiry (t : Instant) (r : Radio) (s : State) : Host.Outcome State Fault Refusal :=
  event t (fun s => s.registrationExpiry r) s

/-- R36: a pending join times out: the handset is told NO ANSWER, then unpinned. -/
def State.joinExpiry (i : SlotId) (s : State) : State :=
  match s.group i with
  | none => s
  | some g =>
    match g.join with
    | none => s
    | some j =>
      if j.expiry ≤ s.now then
        ((((s.modGroup i fun g => { g with join := none }).noticeToEntry j.radio .noAnswer g.call).unpin
          j.radio).mark i)
      else s

/-- JOIN TIMEOUT (R36). -/
def execJoinTimeout (t : Instant) (i : SlotId) (s : State) : Host.Outcome State Fault Refusal :=
  event t (fun s => s.joinExpiry i) s

/-- R28, R42: whether a wait of a kind is SENT and its expiry has been reached. -/
def Group.waitDue (g : Group) (k : WaitKind) (now : Instant) : Bool :=
  g.wait.any fun w => w.kind == k && w.expiry.any fun e => e ≤ now

/-- R28: the attachment has failed; the group retires as OPEN FAILED. -/
def State.attachExpiry (i : SlotId) (s : State) : State :=
  if (s.group i).any (fun g => g.waitDue .attach s.now) then s.retire i .openFailed else s

/-- ATTACH TIMEOUT (R28, R31). -/
def execAttachTimeout (t : Instant) (i : SlotId) (s : State) : Host.Outcome State Fault Refusal :=
  event t (fun s => s.attachExpiry i) s

/-- R42, R84: the release is lost: the wait ends, RELEASE_LOST joins the recorded set, and the group enters HALT. -/
def State.loseRelease (i : SlotId) (s : State) : State :=
  ((s.modGroup i fun g => { g with wait := none, causes := g.causes.add .releaseLost }).mark i).enterHalt i

/-- R42: the expiry of a RELEASE wait. -/
def State.releaseExpiry (i : SlotId) (s : State) : State :=
  if (s.group i).any (fun g => g.waitDue .release s.now) then s.loseRelease i else s

/-- RELEASE TIMEOUT (R42, R84). -/
def execReleaseTimeout (t : Instant) (i : SlotId) (s : State) : Host.Outcome State Fault Refusal :=
  event t (fun s => s.releaseExpiry i) s

/-- R111: an order times out, steps 1 to 4. -/
def State.loseOrder (i : SlotId) (o : Order) (s : State) : State :=
  let s1 := ((s.dropOrder i).toLeader i (.unconfirmed o.seq)).mark i
  if o.kind = .stop then
    (s1.modGroup i fun g => { g with unconfirmed := some o.seq }).addCause i .stopUnconfirmed
  else s1

/-- R111: the expiry of a SENT order in flight. -/
def State.orderExpiry (i : SlotId) (s : State) : State :=
  match s.group i with
  | none => s
  | some g =>
    match g.order with
    | none => s
    | some o => if o.expiry.any (fun e => e ≤ s.now) then s.loseOrder i o.order else s

/-- ORDER TIMEOUT (R111, R112). -/
def execOrderTimeout (t : Instant) (i : SlotId) (s : State) : Host.Outcome State Fault Refusal :=
  event t (fun s => s.orderExpiry i) s

/-- R143: the expiry of a talk grant. -/
def State.talkExpiry (c : Chan) (s : State) : State :=
  if (s.chan c).talk.any (fun h => h.expiry ≤ s.now) then s.endGrant c else s

/-- TALK WINDOW EXPIRY (R143, R144). -/
def execTalkWindowExpiry (t : Instant) (c : Chan) (s : State) : Host.Outcome State Fault Refusal :=
  event t (fun s => s.talkExpiry c) s

/-! ### The end of a move window -/

/-- R157, step 2: the LINK causes of the absent loco and leader. -/
def absentCauses (loco leader : Bool) : Causes := { locoLink := loco, leaderLink := leader }

/-- R157, step 2: an absent loco and an absent leader go to level 0. -/
def Group.zeroAbsent (g : Group) (loco leader : Bool) : Group :=
  let g1 := if loco then { g with loco := { g.loco with level := 0 } } else g
  if leader then { g1 with leader := { g1.leader with level := 0 } } else g1

/-- R158: whether the channel's frame in flight is an old-channel HALT of the slot from the source. -/
def Channel.oldHaltOnAir (ch : Channel) (i : SlotId) (src : Source) : Bool :=
  ch.inFlight.any fun f => f.owner == some i && f.source == src && f.awaited && f.isOldHalt

/-- R158: the final old-channel HALT is set up: the frame on the air, the pending request, or a new request. -/
def State.setFinalHalt (i : SlotId) (m : MoveRecord) (s : State) : State :=
  let src : Source := .phase m.oldPhase
  let s1 := s.modGroup i fun g => { g with finalHalt := some { chan := m.oldChan, phase := m.oldPhase } }
  if (s.chan m.oldChan).oldHaltOnAir i src then s1.withdraw m.oldChan src .halt
  else if s.isPending m.oldChan src .halt then s1
  else s1.raise m.oldChan src .halt .oldHalt

/-- R157: the move window ends with members absent, steps 1 to 5. -/
def State.endMoveAbsent (i : SlotId) (g : Group) (m : MoveRecord) (s : State) : State :=
  let noLoco := !m.checked.contains g.loco.radio
  let noLeader := !m.checked.contains g.leader.radio
  let s1 := (g.crew.filter fun x => !m.checked.contains x.radio).foldl (fun s x => s.loseCrew i x.radio) s
  let s2 := (s1.modGroup i fun g => g.zeroAbsent noLoco noLeader).addCauses i (absentCauses noLoco noLeader)
  let s3 :=
    if noLoco then s2.setFinalHalt i m
    else (s2.withdraw m.oldChan (.phase m.oldPhase) .halt).freePhase m.oldChan m.oldPhase
  let s4 := (s3.withdraw m.oldChan (.phase m.oldPhase) .move).orphanOn m.oldChan i Frame.isMove
  (s4.modGroup i fun g => { g with move := none }).mark i

/-- R156, R157: the expiry of a move window; a set that is complete ends the move as R156 gives. -/
def State.moveExpiry (i : SlotId) (s : State) : State :=
  match s.group i with
  | none => s
  | some g =>
    match g.move with
    | none => s
    | some m =>
      if m.expiry ≤ s.now then (if g.allChecked m then s.completeMove i else s.endMoveAbsent i g m) else s

/-- MOVE WINDOW EXPIRY (R156 to R158). -/
def execMoveWindowExpiry (t : Instant) (i : SlotId) (s : State) : Host.Outcome State Fault Refusal :=
  event t (fun s => s.moveExpiry i) s

/-! ### The store and the survey -/

/-- R177: the store completes. -/
def State.storeCompletes (s : State) : State :=
  match s.storing with
  | none => s
  | some p => { s with profile := p, profileValid := true, storing := none }.attend .storeDone

/-- STORE COMPLETION (R177), whenever it comes (notes/assumptions/28.md). -/
def execStoreCompletion (t : Instant) (s : State) : Host.Outcome State Fault Refusal :=
  event t (fun s => s.storeCompletes) s

/-- R164: the sampling moment of a free phase: no transmission is in progress and the moment is reached and not later
than the deadline. With the line NOT READY the phase is skipped; otherwise the noise-sample request is sent. -/
def State.samplingMoment (c : Chan) (s : State) : State :=
  match (s.chan c).survey.sample with
  | .waiting t d =>
    if (s.chan c).tx = .idle ∧ (s.chan c).samplingMoment t ≤ d ∧ (s.chan c).samplingMoment t ≤ s.now then
      if (s.chan c).ready then
        s.modSurvey c fun v => { v with sample := .outstanding v.cycle s.now }
      else s.sampleEnds c
    else s
  | _ => s

/-- SAMPLING MOMENT (R164). -/
def execSamplingMoment (t : Instant) (c : Chan) (s : State) : Host.Outcome State Fault Refusal :=
  event t (fun s => s.samplingMoment c) s

/-- R164: the deadline passes with a transmission in progress; the phase is skipped. -/
def State.sampleDeadline (c : Chan) (s : State) : State :=
  match (s.chan c).survey.sample with
  | .waiting _ d => if d ≤ s.now ∧ (s.chan c).tx ≠ .idle then s.sampleEnds c else s
  | _ => s

/-- SAMPLE DEADLINE (R164, R166). -/
def execSampleDeadline (t : Instant) (c : Chan) (s : State) : Host.Outcome State Fault Refusal :=
  event t (fun s => s.sampleDeadline c) s

end Sys2Proof.Machine
end

