-- ==== Sys2Proof/Machine/Intake.lean ====
section
/-! DEFINITION. Intake (R13 to R19): how an uplink frame is attributed, registered, redirected, refused or handed to the
block that takes its kind. -/

namespace Sys2Proof.Machine

/-- The uplink kinds (R13). -/
inductive UplinkKind where
  | checkIn
  | answer
  | order
  | orderAck
  | haltAck
  | status
  | talkReq
  | talkEnd
  | join
  | admitFrame
  | refuse
  | leave
  | hand
  | resume
  | disband
  | attachAck
  | releaseAck
  deriving DecidableEq, Repr

/-- R17: whether a role may send a kind. -/
def UplinkKind.allowed (k : UplinkKind) (r : Role) : Bool :=
  match k with
  | .checkIn | .answer | .talkReq | .talkEnd => true
  | .status | .orderAck | .haltAck | .attachAck | .releaseAck => r == .loco
  | .order | .admitFrame | .refuse | .hand | .disband | .resume => r == .leader
  | .leave => r == .crew
  | .join => false

/-- R18: the kinds that carry motion, speed and odometer from a loco. -/
def UplinkKind.carriesMotion (k : UplinkKind) : Bool :=
  match k with
  | .checkIn | .answer | .orderAck | .haltAck | .status => true
  | _ => false

/-- R13, R199: the frames Intake discards. -/
def State.discards (s : State) (k : UplinkKind) (c : Chan) (f : UplinkFrame) : Bool :=
  f.integrity == .fail || !f.kindListed || !validSender f.sender || (s.chan c).mode == .off
    || (k == .checkIn && (radioKindOf f.declared).isNone)

/-- The entry a CHECK-IN on a channel makes (R3, R4). -/
def entryOf (s : State) (c : Chan) (f : UplinkFrame) (k : RadioKind) (p : Option SlotId) : RegEntry :=
  { radio := f.sender, kind := k, channel := c, level := levelOf f.level, lastHeard := s.now, pinned := p }

/-- R31: a CHECK-IN that creates or refreshes an entry releases the holds of the pairings that name its radio; the
pairings are examined after it (R30). -/
def State.releaseHolds (r : Radio) (s : State) : State :=
  { s with
    pairings := Vector.ofFn fun k =>
      let q := s.pairings.get k
      if q.pairing.loco = r ∨ q.pairing.leader = r then { q with held := false } else q
    examine := true }

/-- R3: a CHECK-IN from a radio in no place. -/
def State.register (c : Chan) (f : UplinkFrame) (k : RadioKind) (s : State) : State :=
  if s.tableHasRoom then
    ((s.appendEntry (entryOf s c f k none)).channelFrame c (.registered c) f.sender 0).releaseHolds f.sender
  else (s.channelNotice c .registryFull f.sender 0).attend .registryFull

/-- R4: a CHECK-IN from a radio with an entry `e`; a change of channel or a declared kind of LOCO cancels the pending
join that pins it. -/
def State.reregister (c : Chan) (f : UplinkFrame) (k : RadioKind) (e : RegEntry) (s : State) : State :=
  let s1 := (s.dropEntry f.sender).appendEntry (entryOf s c f k e.pinned)
  let s2 := match e.pinned with
    | none => s1
    | some i => if e.channel ≠ c ∨ k = RadioKind.loco then s1.cancelJoin i false else s1
  (s2.channelFrame c (.registered c) f.sender 0).releaseHolds f.sender

/-- R18, R79: the loco member record takes the frame's motion, speed and odometer; STANDING removes OVERSPEED. -/
def State.locoUpdate (i : SlotId) (f : UplinkFrame) (s : State) : State :=
  let s1 := s.modGroup i fun g =>
    { g with
      loco := { g.loco with
        motion := motionOf f.motion, speed := some (speedOf f.speed), odometer := some f.odometer } }
  if motionOf f.motion = .standing then s1.removeCause i .overspeed else s1

/-- R18: an ATTACH-ACK sets the last odometer alone. -/
def State.odometerUpdate (i : SlotId) (f : UplinkFrame) (s : State) : State :=
  s.modGroup i fun g => { g with loco := { g.loco with odometer := some f.odometer } }

/-- R17, R18, R116: a member frame whose kind the role may send, after its presence: the loco record, the owning block
(`act`), the approach check. -/
def State.takeKind (k : UplinkKind) (i : SlotId) (role : Role) (f : UplinkFrame) (act : State → State) (s : State) :
    State :=
  if role = .loco ∧ k.carriesMotion then
    (act (s.locoUpdate i f)).approachCheck i (speedOf f.speed) f.odometer (motionOf f.motion)
  else if k = .attachAck then act (s.odometerUpdate i f)
  else act s

/-- R154: a CHECK-IN on a channel that the group uses and that is not its own: the old channel of a move. -/
def Group.oldCheckIn (g : Group) (k : UplinkKind) (c : Chan) : Bool := k == .checkIn && g.channel != c

/-- R16, R17, R154: a frame from a group member. A CHECK-IN on the old channel of a move is presence only. -/
def State.memberFrame (k : UplinkKind) (c : Chan) (f : UplinkFrame) (i : SlotId) (role : Role) (act : State → State)
    (s : State) : State :=
  match s.group i with
  | none => s
  | some g =>
    if g.usesChannel c then
      if g.oldCheckIn k c then s.presence i f.sender
      else if k.allowed role then (s.presence i f.sender).takeKind k i role f act
      else (s.presence i f.sender).toRadio i f.sender .notAllowed
    else (s.channelNotice c (.redirect g.channel) f.sender g.call).presence i f.sender

/-- R15: a frame other than CHECK-IN from a radio with an entry `e`; `join` is the join protocol. -/
def State.registeredFrame (k : UplinkKind) (c : Chan) (f : UplinkFrame) (e : RegEntry) (join : State → State)
    (s : State) : State :=
  if e.channel ≠ c then s
  else if k = .join ∧ e.pinned.isNone then join s
  else s.channelNotice c .notAllowed f.sender 0

/-- R13 to R17: an uplink frame of kind `k`. `act` is what the kind's owning block does for a member's slot, `join` what
the join protocol does for a registered handset's entry. -/
def State.intake (k : UplinkKind) (c : Chan) (f : UplinkFrame) (act : SlotId → State → State)
    (join : RegEntry → State → State) (s : State) : State :=
  if s.discards k c f then s
  else
    match s.entry f.sender with
    | some e =>
      if k = .checkIn then
        match radioKindOf f.declared with
        | some rk => s.reregister c f rk e
        | none => s
      else s.registeredFrame k c f e (join e)
    | none =>
      match s.memberPlace f.sender with
      | some (i, role) => s.memberFrame k c f i role (act i)
      | none =>
        if k = .checkIn then
          match radioKindOf f.declared with
          | some rk => s.register c f rk
          | none => s
        else s

/-- A kind that no registered radio has taken (every kind but JOIN). -/
def noJoin : RegEntry → State → State := fun _ s => s

end Sys2Proof.Machine
end

