-- ==== Sys2Proof/Machine/Uplink.lean ====
section
/-! DEFINITION. The uplink frame commands: for each kind what its owning block does, and the command's meaning. -/

namespace Sys2Proof.Machine

/-! ### CHECK-IN, ANSWER, STATUS -/

/-- R153: during a move a CHECK-IN on the target joins the checked-in set, which may complete the move (R156); one on the
old channel does not come here (R154). -/
def State.checkInAct (r : Radio) (i : SlotId) (s : State) : State :=
  match s.group i with
  | none => s
  | some g =>
    match g.move with
    | none => s
    | some m =>
      if m.checked.contains r then s
      else (s.modGroup i fun g => { g with move := some { m with checked := m.checked ++ [r] } }).completeMove i

/-- CHECK-IN (R1 to R5, R13 to R19, R30, R31, R153, R156). -/
def execCheckIn (t : Instant) (c : Chan) (f : UplinkFrame) (s : State) : Host.Outcome State Fault Refusal :=
  event t (fun s => s.intake .checkIn c f (State.checkInAct f.sender) noJoin) s

/-- ANSWER (R64): presence, the loco record and the approach check are Intake's. -/
def execAnswer (t : Instant) (c : Chan) (f : UplinkFrame) (s : State) : Host.Outcome State Fault Refusal :=
  event t (fun s => s.intake .answer c f (fun _ s => s) noJoin) s

/-- STATUS from the loco (R18, R116). -/
def execStatusFrame (t : Instant) (c : Chan) (f : UplinkFrame) (s : State) : Host.Outcome State Fault Refusal :=
  event t (fun s => s.intake .status c f (fun _ s => s) noJoin) s

/-! ### Orders -/

/-- R103, R107: a taken order becomes the order in flight or replaces it; a repeat changes nothing. -/
def State.takeOrder (i : SlotId) (g : Group) (o : Order) (s : State) : State :=
  match g.order with
  | none =>
    (s.modGroup i fun g => { g with order := some { order := o, expiry := none } }).raise g.channel (.phase g.phase)
      .relay .plain
  | some cur =>
    if cur.order = o then s
    else
      (((s.modGroup i fun g => { g with order := some { order := o, expiry := none } }).orphan i Frame.isRelay).raise
        g.channel (.phase g.phase) .relay .plain)

/-- R101, check 4: a STOP is in flight and the new order is not a STOP. -/
def Group.stopPending (g : Group) (o : Order) : Option Nat :=
  match g.order with
  | none => none
  | some cur => if cur.order.kind = .stop ∧ o.kind ≠ .stop then some cur.order.seq else none

/-- R101, check 5: the order in flight carries the new order's sequence with a different kind or argument. -/
def Group.sequenceClash (g : Group) (o : Order) : Bool :=
  match g.order with
  | none => false
  | some cur => cur.order.seq == o.seq && cur.order != o

/-- R101 to R107, R199: an ORDER from the leader. -/
def State.orderAct (f : UplinkFrame) (i : SlotId) (s : State) : State :=
  match s.group i, orderOf f with
  | some g, some o =>
    if g.state = .halt then s.toRadio i f.sender (.halted g.causes)
    else if g.state = .opening ∨ g.state = .releasing then s.toRadio i f.sender .notAllowed
    else if g.move.isSome then s.toRadio i f.sender .moving
    else
      match g.stopPending o with
      | some n => s.toLeader i (.stopPending n)
      | none => if g.sequenceClash o then s.toRadio i f.sender .notAllowed else s.takeOrder i g o
  | some _, none => s.toRadio i f.sender .notAllowed
  | none, _ => s

/-- ORDER (R100 to R107, R113). -/
def execOrder (t : Instant) (c : Chan) (f : UplinkFrame) (s : State) : Host.Outcome State Fault Refusal :=
  event t (fun s => s.intake .order c f (State.orderAct f) noJoin) s

/-- R108: whether an ORDER-ACK's sequence confirms the order in flight: SENT, or PENDING and on the air. -/
def State.confirms (s : State) (g : Group) (seq : Nat) : Bool :=
  match g.order with
  | none => false
  | some o =>
    o.order.seq == seq && (o.expiry.isSome || !s.isPending g.channel (.phase g.phase) .relay)

/-- R108: confirmation, steps 1 to 5. -/
def State.confirmOrder (i : SlotId) (o : Order) (odometer : Nat) (s : State) : State :=
  let s1 := s.dropOrder i
  let s2 := s1.modGroup i fun g => { g with lastConfirmed := some { kind := o.kind, arg := o.arg } }
  let s3 := s2.approachOnConfirm i o odometer
  ((s3.toLeader i (.confirmed o.seq)).mark i)

/-- R110: an ORDER-ACK that confirms nothing is checked against the unconfirmed-stop record. -/
def State.lateOrderAck (i : SlotId) (seq : Nat) (s : State) : State :=
  match s.group i with
  | none => s
  | some g =>
    if g.unconfirmed = some seq then
      (s.modGroup i fun g => { g with unconfirmed := none }).removeCause i .stopUnconfirmed
    else s

/-- R108, R110: an ORDER-ACK from the loco. -/
def State.orderAckAct (f : UplinkFrame) (i : SlotId) (s : State) : State :=
  match s.group i with
  | none => s
  | some g =>
    match g.order with
    | none => s.lateOrderAck i (sequenceOf f.sequence)
    | some o =>
      if s.confirms g (sequenceOf f.sequence) then s.confirmOrder i o.order f.odometer
      else s.lateOrderAck i (sequenceOf f.sequence)

/-- ORDER-ACK (R108 to R110, R112, R116). -/
def execOrderAck (t : Instant) (c : Chan) (f : UplinkFrame) (s : State) : Host.Outcome State Fault Refusal :=
  event t (fun s => s.intake .orderAck c f (State.orderAckAct f) noJoin) s

/-- R80: a HALT-ACK removes STOP_UNCONFIRMED and empties the unconfirmed-stop record; where the cause is absent the
record stays. -/
def State.haltAckAct (i : SlotId) (s : State) : State :=
  match s.group i with
  | none => s
  | some g =>
    if g.causes.stopUnconfirmed then
      (s.modGroup i fun g => { g with unconfirmed := none }).removeCause i .stopUnconfirmed
    else s

/-- HALT-ACK (R80, R87). -/
def execHaltAck (t : Instant) (c : Chan) (f : UplinkFrame) (s : State) : Host.Outcome State Fault Refusal :=
  event t (fun s => s.intake .haltAck c f (fun i s => s.haltAckAct i) noJoin) s

/-! ### Attachment and release -/

/-- R27: an ATTACH-ACK completes the attachment; an OPENING group becomes ACTIVE and its warn condition is judged
(R71). -/
def State.attachAckAct (i : SlotId) (s : State) : State :=
  match s.group i with
  | none => s
  | some g =>
    if g.wait.any (fun w => w.kind == .attach) then
      let s1 := ((s.modGroup i fun g => { g with wait := none }).withdraw g.channel (.phase g.phase) .attach).orphan i
        Frame.isAttach
      let s2 := s1.toLeader i (.assigned g.loco.radio)
      if g.state = .opening then ((s2.modGroup i fun g => { g with state := .active }).mark i).judgeWarn i else s2
    else s

/-- ATTACH-ACK (R18, R27, R29). -/
def execAttachAck (t : Instant) (c : Chan) (f : UplinkFrame) (s : State) : Host.Outcome State Fault Refusal :=
  event t (fun s => s.intake .attachAck c f (fun i s => s.attachAckAct i) noJoin) s

/-- R43: whether a RELEASE-ACK completes a release. -/
def Group.releaseAcks (g : Group) : Bool :=
  g.wait.any (fun w => w.kind == .release) || (g.state == .halt && g.causes.releaseLost)

/-- R43: a RELEASE-ACK retires the group as DISBANDED. -/
def State.releaseAckAct (i : SlotId) (s : State) : State :=
  match s.group i with
  | none => s
  | some g => if g.releaseAcks then s.retire i .disbanded else s

/-- RELEASE-ACK (R43, R44). -/
def execReleaseAck (t : Instant) (c : Chan) (f : UplinkFrame) (s : State) : Host.Outcome State Fault Refusal :=
  event t (fun s => s.intake .releaseAck c f (fun i s => s.releaseAckAct i) noJoin) s

/-! ### The talk floor -/

/-- R139 to R141: an eligible TALK-REQ. -/
def State.talkTake (i : SlotId) (c : Chan) (r : Radio) (s : State) : State :=
  match (s.chan c).talk with
  | none => s.grantFloor c r
  | some h =>
    if h.radio = r then
      s.modChan c fun ch => { ch with talk := some { h with expiry := s.now + 1000 * ch.config.talkWindow } }
    else if (s.chan c).talkQueue.contains r then s
    else if (s.chan c).talkQueue.length < 4 then
      s.modChan c fun ch => { ch with talkQueue := ch.talkQueue ++ [r] }
    else s.toRadio i r .floorBusy

/-- R138: a TALK-REQ is judged against the sender's group. A group in HALT that holds a move record meets two of the
rule's cases; that HALTED is answered is the model's choice (notes/assumptions/31.md). -/
def State.talkReqAct (r : Radio) (i : SlotId) (s : State) : State :=
  match s.group i with
  | none => s
  | some g =>
    if g.state = .halt then s.toRadio i r (.halted g.causes)
    else if g.state = .opening ∨ g.state = .releasing then s.toRadio i r .notAllowed
    else if g.move.isSome then s.toRadio i r .moving
    else s.talkTake i g.channel r

/-- TALK-REQ (R138 to R141). -/
def execTalkReq (t : Instant) (c : Chan) (f : UplinkFrame) (s : State) : Host.Outcome State Fault Refusal :=
  event t (fun s => s.intake .talkReq c f (State.talkReqAct f.sender) noJoin) s

/-- R142: a TALK-END, by how the sender stands to the floor of its group's channel. -/
def State.talkEndAct (r : Radio) (i : SlotId) (s : State) : State :=
  match s.group i with
  | none => s
  | some g =>
    if s.holdsFloor g.channel r then s.endGrant g.channel
    else s.modChan g.channel fun ch => { ch with talkQueue := ch.talkQueue.filter fun x => x != r }

/-- TALK-END (R142, R144). -/
def execTalkEnd (t : Instant) (c : Chan) (f : UplinkFrame) (s : State) : Host.Outcome State Fault Refusal :=
  event t (fun s => s.intake .talkEnd c f (State.talkEndAct f.sender) noJoin) s

/-! ### Joining, leaving, handing over -/

/-- R32: the checks of the join protocol on the named group, in order; `none` where they all pass. -/
def State.joinRefusal (s : State) (e : RegEntry) (g : Group) : Option Notice :=
  if ¬ (g.state = .active ∨ g.state = .degraded) then some .notAllowed
  else if ¬ g.crew.length < 4 then some .groupFull
  else if g.join.isSome then some .groupBusy
  else if e.channel ≠ g.channel then some (.redirect g.channel)
  else if (s.chan g.channel).survey.jammed then some .jammed
  else none

/-- R33: a JOIN that passes starts a pending join. -/
def State.startJoin (i : SlotId) (r : Radio) (s : State) : State :=
  ((((s.pin r i).modGroup i fun g =>
    { g with join := some { radio := r, expiry := s.now + 1000 * s.device.joinTimeout } }).mark i).toLeader i
      (.joinRequest r))

/-- R32, R33: a JOIN from a registered handset; refusals go to the channel the frame arrived on. The call number field of
a refusal by checks 3 to 7, the NOT ALLOWED of check 3 among them, is the number of the group that was named; by checks 1
and 2 it is 0 (notes/assumptions/13.md). -/
def State.joinAct (c : Chan) (f : UplinkFrame) (e : RegEntry) (s : State) : State :=
  if e.kind ≠ .handset then s.channelNotice c .notAllowed f.sender 0
  else
    match s.slotOfCall f.call with
    | none => s.channelNotice c .notFound f.sender 0
    | some i =>
      match s.group i with
      | none => s
      | some g =>
        match s.joinRefusal e g with
        | some n => s.channelNotice c n f.sender g.call
        | none => s.startJoin i f.sender

/-- JOIN (R15, R32, R33). -/
def execJoin (t : Instant) (c : Chan) (f : UplinkFrame) (s : State) : Host.Outcome State Fault Refusal :=
  event t (fun s => s.intake .join c f (fun _ s => s) (State.joinAct c f)) s

/-- R34: admits the pending join's handset, steps 1 to 5. -/
def State.admitJoin (i : SlotId) (g : Group) (r : Radio) (s : State) : State :=
  let s1 := s.noticeToEntry r .admitted g.call
  let s2 := s1.modGroup i fun g => { g with join := none }
  let s3 := s2.dropEntry r
  ((s3.modGroup i fun g => { g with crew := g.crew ++ [{ radio := r, level := 7 }] }).mark i)

/-- R34, R35: an ADMIT; one that names no pending join's handset is answered NOT ALLOWED. -/
def State.admitAct (f : UplinkFrame) (i : SlotId) (s : State) : State :=
  match s.group i with
  | none => s
  | some g =>
    if g.join.any (fun j => j.radio == f.named) then s.admitJoin i g f.named
    else s.toRadio i f.sender .notAllowed

/-- ADMIT (R34, R35). -/
def execAdmit (t : Instant) (c : Chan) (f : UplinkFrame) (s : State) : Host.Outcome State Fault Refusal :=
  event t (fun s => s.intake .admitFrame c f (State.admitAct f) noJoin) s

/-- R35: a REFUSE; the pending join is removed, the handset told and unpinned. -/
def State.refuseAct (f : UplinkFrame) (i : SlotId) (s : State) : State :=
  match s.group i with
  | none => s
  | some g =>
    if g.join.any (fun j => j.radio == f.named) then s.cancelJoin i false else s.toRadio i f.sender .notAllowed

/-- REFUSE (R35). -/
def execRefuse (t : Instant) (c : Chan) (f : UplinkFrame) (s : State) : Host.Outcome State Fault Refusal :=
  event t (fun s => s.intake .refuse c f (State.refuseAct f) noJoin) s

/-- R38, R159: a LEAVE, steps 1 to 6; it may complete a move (R156). -/
def State.leaveAct (r : Radio) (i : SlotId) (s : State) : State :=
  match s.group i with
  | none => s
  | some g =>
    if g.state = .opening then s
    else
      let s1 := s.modGroup i fun g => ((g.removeCrew r).closeWindowOf r).uncheck r
      let s2 := s1.withdrawFrom r
      let s3 := s2.returnRadio r .handset g.channel
      ((s3.toLeader i (.memberLeft r)).mark i).completeMove i

/-- LEAVE (R38). -/
def execLeave (t : Instant) (c : Chan) (f : UplinkFrame) (s : State) : Host.Outcome State Fault Refusal :=
  event t (fun s => s.intake .leave c f (State.leaveAct f.sender) noJoin) s

/-- R39: the named crew member becomes the leader and the old leader the last of the crew. -/
def Group.handTo (g : Group) (m : Member) : Group :=
  let g1 := g.removeCrew m.radio
  { g1 with leader := m, crew := g1.crew ++ [g.leader] }

/-- R39: a HAND, steps 1 to 6, then the warn condition and LEADER_LINK (R73). -/
def State.handAct (f : UplinkFrame) (i : SlotId) (s : State) : State :=
  match s.group i with
  | none => s
  | some g =>
    match g.crew.find? fun m => m.radio == f.named with
    | none => s.toRadio i f.sender .notAllowed
    | some m =>
      if g.state = .opening ∨ g.state = .releasing then s.toRadio i f.sender .notAllowed
      else
        let s1 := (((s.modGroup i fun g => g.handTo m).toRadio i m.radio .leaderNow).mark i).judgeWarn i
        if m.level = 0 then s1.addCause i .leaderLink else s1

/-- HAND (R39). -/
def execHand (t : Instant) (c : Chan) (f : UplinkFrame) (s : State) : Host.Outcome State Fault Refusal :=
  event t (fun s => s.intake .hand c f (State.handAct f) noJoin) s

/-! ### RESUME and DISBAND -/

/-- R29, R89: the state a resumed group returns to. -/
def Group.resumed (g : Group) (warn : Nat) : GroupState :=
  if g.wait.any (fun w => w.kind == .attach) then .opening
  else if g.warned warn then .degraded
  else .active

/-- R59, R89: a pending HALT request of the group becomes a BEAT in ACTIVE and DEGRADED, and is withdrawn in OPENING. -/
def State.resumeBeat (g : Group) (st : GroupState) (s : State) : State :=
  if s.isPending g.channel (.phase g.phase) .halt then
    let s1 := s.withdraw g.channel (.phase g.phase) .halt
    if st = .opening then s1 else s1.raise g.channel (.phase g.phase) .beat .plain
  else s

/-- R155: a resume during a move withdraws a pending old-channel HALT request. -/
def State.resumeOld (g : Group) (s : State) : State :=
  match g.move with
  | none => s
  | some m => s.withdraw m.oldChan (.phase m.oldPhase) .halt

/-- R89, R90: a RESUME from the leader. -/
def State.resumeAct (f : UplinkFrame) (i : SlotId) (s : State) : State :=
  match s.group i with
  | none => s
  | some g =>
    if g.state = .halt then
      if g.causes.isEmpty then
        let st := g.resumed s.device.warn
        ((((s.modGroup i fun g => { g with state := st }).toLeader i (.resumed st)).mark i).resumeBeat g st).resumeOld g
      else s.toLeader i (.causesPresent g.causes)
    else s.toRadio i f.sender .notAllowed

/-- RESUME (R89, R90). -/
def execResume (t : Instant) (c : Chan) (f : UplinkFrame) (s : State) : Host.Outcome State Fault Refusal :=
  event t (fun s => s.intake .resume c f (State.resumeAct f) noJoin) s

/-- R40, R41: a DISBAND frame from the leader. -/
def State.disbandAct (f : UplinkFrame) (i : SlotId) (s : State) : State :=
  match s.group i with
  | none => s
  | some g =>
    if g.disbandable then s.startRelease i
    else if g.state = .opening ∨ g.state = .releasing ∨ g.wait.any (fun w => w.kind == .attach) then
      s.toRadio i f.sender .notAllowed
    else s.toRadio i f.sender .locoMoving

/-- DISBAND from the leader (R40, R41). -/
def execDisbandFrame (t : Instant) (c : Chan) (f : UplinkFrame) (s : State) : Host.Outcome State Fault Refusal :=
  event t (fun s => s.intake .disband c f (State.disbandAct f) noJoin) s

end Sys2Proof.Machine
end

