-- ==== Sys2Proof/Machine/Dispatch.lean ====
section
/-! DEFINITION. The dispatch: one direct call of a meaning for each command. -/

namespace Sys2Proof.Machine

def exec (i : Instr) (s : State) : Host.Outcome State Fault Refusal :=
  match i with
  | .checkIn t ch f => Sys2Proof.Machine.execCheckIn t ch f s
  | .answer t ch f => Sys2Proof.Machine.execAnswer t ch f s
  | .statusFrame t ch f => Sys2Proof.Machine.execStatusFrame t ch f s
  | .order t ch f => Sys2Proof.Machine.execOrder t ch f s
  | .orderAck t ch f => Sys2Proof.Machine.execOrderAck t ch f s
  | .haltAck t ch f => Sys2Proof.Machine.execHaltAck t ch f s
  | .attachAck t ch f => Sys2Proof.Machine.execAttachAck t ch f s
  | .releaseAck t ch f => Sys2Proof.Machine.execReleaseAck t ch f s
  | .talkReq t ch f => Sys2Proof.Machine.execTalkReq t ch f s
  | .talkEnd t ch f => Sys2Proof.Machine.execTalkEnd t ch f s
  | .join t ch f => Sys2Proof.Machine.execJoin t ch f s
  | .admitFrame t ch f => Sys2Proof.Machine.execAdmit t ch f s
  | .refuse t ch f => Sys2Proof.Machine.execRefuse t ch f s
  | .leave t ch f => Sys2Proof.Machine.execLeave t ch f s
  | .hand t ch f => Sys2Proof.Machine.execHand t ch f s
  | .resume t ch f => Sys2Proof.Machine.execResume t ch f s
  | .disbandFrame t ch f => Sys2Proof.Machine.execDisbandFrame t ch f s
  | .txDone t ch => Sys2Proof.Machine.execTxDone t ch s
  | .txRefused t ch => Sys2Proof.Machine.execTxRefused t ch s
  | .ready t ch => Sys2Proof.Machine.execReady t ch s
  | .notReady t ch => Sys2Proof.Machine.execNotReady t ch s
  | .levelReport t ch level answer => Sys2Proof.Machine.execLevel t ch level answer s
  | .phaseInstant t ch p => Sys2Proof.Machine.execPhaseInstant t ch p s
  | .cycleStart t ch periodFirst => Sys2Proof.Machine.execCycleStart t ch periodFirst s
  | .answerWindowExpiry t slot => Sys2Proof.Machine.execAnswerWindowExpiry t slot s
  | .registrationExpiry t r => Sys2Proof.Machine.execRegistrationExpiry t r s
  | .joinTimeout t slot => Sys2Proof.Machine.execJoinTimeout t slot s
  | .attachTimeout t slot => Sys2Proof.Machine.execAttachTimeout t slot s
  | .releaseTimeout t slot => Sys2Proof.Machine.execReleaseTimeout t slot s
  | .orderTimeout t slot => Sys2Proof.Machine.execOrderTimeout t slot s
  | .talkWindowExpiry t ch => Sys2Proof.Machine.execTalkWindowExpiry t ch s
  | .moveWindowExpiry t slot => Sys2Proof.Machine.execMoveWindowExpiry t slot s
  | .startupTimerExpiry t => Sys2Proof.Machine.execStartupTimerExpiry t s
  | .hostSilenceExpiry t => Sys2Proof.Machine.execHostSilenceExpiry t s
  | .storeCompletion t => Sys2Proof.Machine.execStoreCompletion t s
  | .samplingMoment t ch => Sys2Proof.Machine.execSamplingMoment t ch s
  | .sampleDeadline t ch => Sys2Proof.Machine.execSampleDeadline t ch s
  | .areaAsserted t l => Sys2Proof.Machine.execAreaAsserted t l s
  | .areaReleased t l => Sys2Proof.Machine.execAreaReleased t l s
  | .powerReset t a b => Sys2Proof.Machine.execPowerReset t a b s
  | .lineReset t a b => Sys2Proof.Machine.execLineReset t a b s
  | .fillerTransaction t n => Sys2Proof.Machine.execFillerTransaction t n s
  | .malformedFrame t n code stated => Sys2Proof.Machine.execMalformedFrame t n code stated s
  | .beginOperate t n => Sys2Proof.Machine.execBeginOperate t n s
  | .reconnect t n => Sys2Proof.Machine.execReconnect t n s
  | .resetCommand t n => Sys2Proof.Machine.execResetCommand t n s
  | .status t n => Sys2Proof.Machine.execStatus t n s
  | .poll t n => Sys2Proof.Machine.execPoll t n s
  | .readGroup t n g => Sys2Proof.Machine.execReadGroup t n g s
  | .readReg t n selector number => Sys2Proof.Machine.execReadReg t n selector number s
  | .surveyRead t n channel => Sys2Proof.Machine.execSurveyRead t n channel s
  | .openGroup t n a => Sys2Proof.Machine.execOpenGroup t n a s
  | .disband t n g => Sys2Proof.Machine.execDisband t n g s
  | .retire t n g => Sys2Proof.Machine.execRetire t n g s
  | .moveGroup t n g target => Sys2Proof.Machine.execMoveGroup t n g target s
  | .setArea t n g area => Sys2Proof.Machine.execSetArea t n g area s
  | .haltGroup t n g => Sys2Proof.Machine.execHaltGroup t n g s
  | .allHalt t n => Sys2Proof.Machine.execAllHalt t n s
  | .releaseHalt t n g => Sys2Proof.Machine.execReleaseHalt t n g s
  | .floorClear t n channel => Sys2Proof.Machine.execFloorClear t n channel s
  | .setChannel t n a => Sys2Proof.Machine.execSetChannel t n a s
  | .setDevice t n a => Sys2Proof.Machine.execSetDevice t n a s
  | .loadCurve t n first count values => Sys2Proof.Machine.execLoadCurve t n first count values s
  | .setPairing t n a => Sys2Proof.Machine.execSetPairing t n a s
  | .store t n => Sys2Proof.Machine.execStore t n s
  | .clearAttention t n mask => Sys2Proof.Machine.execClearAttention t n mask s

end Sys2Proof.Machine
end

