-- ==== Sys2Proof/Safety.lean ====
section
/-! DEFINITION. What a sound state of the controller is, in the terms the statements use: each property is kept by every
step and holds at reset. -/

namespace Sys2Proof.Machine

/-! ### Group records -/

/-- R76: a group in OPENING, ACTIVE or DEGRADED holds no halt cause, since the addition of one is a HALT entry. -/
def Group.CausesSound (g : Group) : Prop := g.state.entersHalt = true → g.causes = {}

/-- R99, R101, R114: an order is in flight only in ACTIVE or DEGRADED, and never during a move. -/
def Group.OrderSound (g : Group) : Prop :=
  g.order.isSome = true → (g.state = .active ∨ g.state = .degraded) ∧ g.move = none

/-- R115: an approach record is held only in ACTIVE or DEGRADED. -/
def Group.ApproachSound (g : Group) : Prop := g.approach.isSome = true → g.state = .active ∨ g.state = .degraded

/-- R112: the unconfirmed-stop record is present exactly while STOP_UNCONFIRMED is. -/
def Group.StopSound (g : Group) : Prop := g.unconfirmed.isSome = g.causes.stopUnconfirmed

/-- R26, R29, R41, R42: OPENING awaits an ATTACH-ACK, RELEASING a RELEASE-ACK, ACTIVE and DEGRADED nothing, and HALT
nothing or an ATTACH-ACK. -/
def Group.WaitSound (g : Group) : Prop :=
  match g.state with
  | .opening => g.wait.map (·.kind) = some .attach
  | .active => g.wait = none
  | .degraded => g.wait = none
  | .halt => g.wait.map (·.kind) ≠ some .release
  | .releasing => g.wait.map (·.kind) = some .release

/-- R32, R33, R37: a pending join is held only in ACTIVE or DEGRADED, by a group with room in its crew. -/
def Group.JoinSound (g : Group) : Prop :=
  g.join.isSome = true → (g.state = .active ∨ g.state = .degraded) ∧ g.crew.length < 4

/-- R148, R149, R158: a move record is held in ACTIVE, DEGRADED or HALT, with no acknowledgement wait and no final
old-channel HALT, and names another channel than the group's; so does a final old-channel HALT. -/
def Group.MoveSound (g : Group) : Prop :=
  (∀ m, g.move = some m →
    (g.state = .active ∨ g.state = .degraded ∨ g.state = .halt) ∧ g.wait = none ∧ g.finalHalt = none
      ∧ m.oldChan ≠ g.channel)
  ∧ ∀ h, g.finalHalt = some h → h.chan ≠ g.channel

/-- R21, R48, R57, R60, R62: the record's counts stay in their ranges. -/
def Group.SizeSound (g : Group) : Prop :=
  g.loco.level ≤ 7 ∧ g.leader.level ≤ 7 ∧ (∀ m ∈ g.crew, m.level ≤ 7) ∧ g.crew.length ≤ 4 ∧ g.position < 3
    ∧ (∀ k, g.pointer = some k → k < g.crew.length) ∧ g.dropped ≤ 4 ∧ g.notices.length ≤ 4

/-- Everything that is asked of one group record. -/
structure Group.Sound (g : Group) : Prop where
  causes : g.CausesSound
  order : g.OrderSound
  approach : g.ApproachSound
  stop : g.StopSound
  wait : g.WaitSound
  join : g.JoinSound
  move : g.MoveSound
  size : g.SizeSound

/-- Every group record is sound. -/
def State.GroupsSound (s : State) : Prop := ∀ i g, s.group i = some g → g.Sound

/-- R70 to R72: an ACTIVE group is above the warn threshold in force, a DEGRADED one is not. -/
def State.WarnSound (s : State) : Prop :=
  ∀ i g, s.group i = some g →
    (g.state = .active → g.warned s.device.warn = false) ∧ (g.state = .degraded → g.warned s.device.warn = true)

/-! ### Phases -/

/-- R55: whether a group holds a phase of a channel: its own, a move's old one, or a final old-channel HALT's. -/
def Group.holds (g : Group) (c : Chan) (p : Phase) : Prop :=
  (g.channel = c ∧ g.phase = p) ∨ (∃ m, g.move = some m ∧ m.oldChan = c ∧ m.oldPhase = p)
    ∨ ∃ h, g.finalHalt = some h ∧ h.chan = c ∧ h.phase = p

/-- R55: the occupancy of the phases is what the group records say, so that no phase has two holders. -/
def State.PhasesSound (s : State) : Prop :=
  ∀ c p i, (s.chan c).occupancy.get p = some i ↔ ∃ g, s.group i = some g ∧ g.holds c p

/-! ### Radios -/

/-- R12: every radio number that the controller knows, once for each place it has. -/
def State.knownRadios (s : State) : List Radio :=
  s.table.map (·.radio) ++ slotIds.flatMap fun i => ((s.group i).map Group.radios).getD []

/-- R2, R8, R12, R33: no radio has two places, the table holds at most 96 entries, and an entry is pinned to a slot
exactly when the slot's pending join names its radio. -/
structure State.RadiosSound (s : State) : Prop where
  onePlace : s.knownRadios.Nodup
  capacity : s.table.length ≤ 96
  pinned : ∀ e ∈ s.table, ∀ i, e.pinned = some i →
    ((s.group i).bind (·.join)).map (·.radio) = some e.radio
  joined : ∀ i r, ((s.group i).bind (·.join)).map (·.radio) = some r →
    (s.entry r).bind (·.pinned) = some i

/-! ### Channels -/

/-- R128: the pending transmit set is a set: its requests stand in strictly rising order of source and kind. -/
def RequestsSound (l : List Request) : Prop := l.Pairwise fun r q => r.key < q.key

/-- R50, R135, R137, R162: a channel's queues keep their capacities, a free floor has no queue, the talk queue holds no
radio twice and not the holder, a survey is OFF exactly on an OFF channel or with its setting off, and its error flag
stands exactly in ERROR. -/
structure Channel.Sound (ch : Channel) : Prop where
  requests : RequestsSound ch.reqs
  noticeCapacity : ch.notices.length ≤ 4
  queueCapacity : ch.talkQueue.length ≤ 4
  freeFloor : ch.talk = none → ch.talkQueue = []
  queueDistinct : ch.talkQueue.Nodup
  holderNotQueued : ∀ h, ch.talk = some h → h.radio ∉ ch.talkQueue
  liveEpoch : ch.epoch.isSome = (ch.mode == .live)
  surveyOff : ch.survey.state = .off ↔ ch.mode = .off ∨ ch.config.survey = false
  surveyError : ch.survey.error = (ch.survey.state == .error)
  surveyCycle : ch.survey.cycle ≤ 7

/-- Every channel is sound. -/
def State.ChannelsSound (s : State) : Prop := ∀ c, (s.chan c).Sound

/-- R144, R146: the holder of a channel's floor is a member of a group on the channel that is ACTIVE or DEGRADED and
holds no move record. -/
def State.FloorsSound (s : State) : Prop := ∀ c h, (s.chan c).talk = some h → s.talkEligible c h.radio = true

/-! ### Settings -/

/-- R63, R130, R137, R161: a channel's settings are within their ranges and on their steps. -/
def ChannelConfig.InRange (g : ChannelConfig) : Prop :=
  60 ≤ g.answerWindow ∧ g.answerWindow ≤ 300 ∧ g.answerWindow % 10 = 0 ∧ 2 ≤ g.talkWindow ∧ g.talkWindow ≤ 30
    ∧ g.floor ≤ 7 ∧ 5 ≤ g.blank ∧ g.blank ≤ 200 ∧ g.jamOn ≤ 63 ∧ g.jamOff ≤ g.jamOn

/-- R52: a beat period is within its range and on its step. -/
def PeriodInRange (p : Nat) : Prop := 400 ≤ p ∧ p ≤ 3200 ∧ p % 50 = 0

/-- R195: the device settings are within their ranges and on their steps. -/
def DeviceSettings.InRange (d : DeviceSettings) : Prop :=
  1 ≤ d.warn ∧ d.warn ≤ 6 ∧ 10 ≤ d.regExpiry ∧ d.regExpiry ≤ 600 ∧ 5 ≤ d.joinTimeout ∧ d.joinTimeout ≤ 30
    ∧ 500 ≤ d.ackTimeout ∧ d.ackTimeout ≤ 4000 ∧ d.ackTimeout % 10 = 0 ∧ 2 ≤ d.moveWindow ∧ d.moveWindow ≤ 20
    ∧ 4 ≤ d.bandShift ∧ d.bandShift ≤ 10 ∧ d.easeTol ≤ 50 ∧ d.easeTol < d.haltExcess ∧ d.haltExcess ≤ 100
    ∧ (∀ m, d.silence = some m → m ≤ 7) ∧ d.startup ≤ 60 ∧ ∀ i, d.curve.get i ≤ 400

/-- R175: the settings of a profile are within their ranges. -/
def Profile.InRange (p : Profile) : Prop :=
  (∀ c, (p.channels.get c).config.InRange ∧ PeriodInRange (p.channels.get c).period) ∧ p.device.InRange

/-- R175, R185: every setting in force, in the profile and in a STORE in progress is within its range. -/
structure State.SettingsSound (s : State) : Prop where
  device : s.device.InRange
  channels : ∀ c, (s.chan c).config.InRange ∧ PeriodInRange (s.chan c).period
    ∧ ∀ p, (s.chan c).pendingPeriod = some p → PeriodInRange p
  profile : s.profile.InRange
  storing : ∀ p, s.storing = some p → p.InRange

/-! ### Device -/

/-- R172, R173, R177: the startup timer runs only in STARTUP, silence is measured exactly in OPERATE, and the valid mark
is clear while a STORE is in progress. -/
structure State.DeviceSound (s : State) : Prop where
  startup : s.startupExpiry.isSome = true → s.mode = .startup
  silence : s.silenceSince.isSome = (s.mode == .operate)
  store : s.storing.isSome = true → s.profileValid = false

/-- R131: nothing is left to do: no sample is lost, no examination of the pairings is due, and no arbiter has a
winner. -/
def State.Quiet (s : State) : Prop := s.lostSample = none ∧ s.examine = false ∧ s.nextHandOver = none

/-! ### Notices -/

/-- R5, R135: a channel with one more frame in its channel notice queue. -/
def Channel.noted (ch : Channel) (b : ChannelBody) (r : Radio) (call : Nat) : Channel :=
  { ch with notices := pushNotice ch.notices { body := b, radio := r, call := call } }

/-- R48: a group with one more notice to its leader. -/
def Group.told (g : Group) (n : Notice) : Group :=
  { g with notices := pushNotice g.notices { notice := n, dest := .leader } }

/-! ### The floor, the survey, the missed polls -/

/-- R144, R145: a channel whose holder `r` leaves the floor at `now` with nobody to take it: TALK-CLOSE names `r`, a pending
TALK-GRANT is gone, the queue is empty, and a transmitter that carries no frame goes to IDLE. -/
def Channel.freed (ch : Channel) (r : Radio) (now : Instant) : Channel :=
  { ch with
    talk := none
    talkQueue := []
    reqs := reqsRaise { source := .channel, kind := .talkClose, body := .closing r }
      (reqsWithdraw .channel .talkGrant ch.reqs)
    lastTxEnd := if ch.inFlight.isNone then some now else ch.lastTxEnd }

/-- R139, R144, R145: a channel whose floor passes at `now` from the holder `r` to the queued radio `x`, behind which `q`
stays queued: TALK-CLOSE names `r`, and a TALK-GRANT is raised. -/
def Channel.passed (ch : Channel) (r x : Radio) (q : List Radio) (now : Instant) : Channel :=
  { ch with
    talk := some { radio := x, expiry := now + 1000 * ch.config.talkWindow }
    talkQueue := q
    reqs := reqsRaise { source := .channel, kind := .talkGrant, body := .plain }
      (reqsRaise { source := .channel, kind := .talkClose, body := .closing r }
        (reqsWithdraw .channel .talkGrant ch.reqs)) }

/-- R166, the table: the jammed flag after a result. -/
def Channel.jamAfter (ch : Channel) (r : SurveyResult) : Bool :=
  match r with
  | .level l _ _ => if ch.survey.jammed then decide (ch.config.jamOff ≤ l) else decide (ch.config.jamOn ≤ l)
  | _ => ch.survey.jammed

/-- R163, R166, R170: what the forming of the result `r` by the survey of channel `c` leaves of `s`, the survey going to
`st`: the progress is clear, the last result is `r`, and the jammed flag is as R166's table says, JAM CHANGE being set where
it changes. Unless the flag is cleared (which settles deferred members) no slot and no other channel changes. -/
structure ResultFormed (s u : State) (c : Chan) (st : SurveyState) (r : SurveyResult) : Prop where
  survey : (u.chan c).survey =
    { (s.chan c).survey with
      state := st, cycle := 0, runMax := none, count := 0, sample := .none, last := r, jammed := (s.chan c).jamAfter r }
  attention : u.attention =
    if (s.chan c).jamAfter r = (s.chan c).survey.jammed then s.attention else attnAdd (.jamChange c) s.attention
  table : u.table = s.table
  kept : (s.chan c).jamAfter r = true ∨ (s.chan c).survey.jammed = false →
    u.slots = s.slots ∧ ∀ d, d ≠ c → u.chan d = s.chan d
  cleared : (s.chan c).jamAfter r = false → (s.chan c).survey.jammed = true → u.examine = true

/-- R68: a missed poll of a radio in a role counts: it holds no floor on the group's channel, and the standstill gate does
not exempt it. -/
def State.Counts (s : State) (g : Group) (r : Radio) (role : Role) : Prop :=
  s.holdsFloor g.channel r = false ∧ (role = .loco ∨ g.gate = false ∨ g.loco.motion ≠ .standing)

/-! ### Where a frame comes from -/

/-- The command of an uplink frame of a kind. -/
def uplinkCommand (k : UplinkKind) (t : Instant) (c : Chan) (f : UplinkFrame) : Instr :=
  match k with
  | .checkIn => .checkIn t c f
  | .answer => .answer t c f
  | .order => .order t c f
  | .orderAck => .orderAck t c f
  | .haltAck => .haltAck t c f
  | .status => .statusFrame t c f
  | .talkReq => .talkReq t c f
  | .talkEnd => .talkEnd t c f
  | .join => .join t c f
  | .admitFrame => .admitFrame t c f
  | .refuse => .refuse t c f
  | .leave => .leave t c f
  | .hand => .hand t c f
  | .resume => .resume t c f
  | .disband => .disbandFrame t c f
  | .attachAck => .attachAck t c f
  | .releaseAck => .releaseAck t c f

/-- R13: a frame that Intake does not discard. -/
structure Arrives (s : State) (c : Chan) (f : UplinkFrame) : Prop where
  pass : f.integrity = .pass
  listed : f.kindListed = true
  sender : f.sender ≠ 0 ∧ f.sender ≠ 16777215
  live : (s.chan c).mode = .live

/-- R12, R14: a frame from a radio that has no place. -/
structure FromUnknown (s : State) (c : Chan) (f : UplinkFrame) : Prop where
  arrives : Arrives s c f
  noEntry : s.entry f.sender = none
  noPlace : s.memberPlace f.sender = none

/-- R15: a frame from a radio with an entry, on its entry's channel. -/
structure FromRegistered (s : State) (c : Chan) (f : UplinkFrame) (e : RegEntry) : Prop where
  arrives : Arrives s c f
  entry : s.entry f.sender = some e
  channel : e.channel = c

/-- R16: a frame from a member of the group in slot `i`, in a role, on a channel that the group uses. -/
structure FromMember (s : State) (c : Chan) (f : UplinkFrame) (i : SlotId) (role : Role) (g : Group) : Prop where
  arrives : Arrives s c f
  noEntry : s.entry f.sender = none
  place : s.memberPlace f.sender = some (i, role)
  group : s.group i = some g
  channel : g.usesChannel c = true

/-! ### What the port's commands are -/

/-- R191: a selector and a number that name slot `i`, by the slot's number or by the call number of its group. -/
def NamesGroup (s : State) (gf : GroupField) (i : SlotId) : Prop :=
  (gf.selector = 0 ∧ gf.number = i.val)
    ∨ (gf.selector = 1 ∧ 1 ≤ gf.number ∧ gf.number ≤ 99 ∧ s.slotOfCall gf.number = some i)


/-- 11, R171, R177: the instant, the bytes clocked and the code, length and mode rule of a command of the port whose
frame is of the length it must have. -/
def portCommand : Instr → Option (Instant × Nat × HostCommand)
  | .beginOperate t n => some (t, n, { code := 1, length := 3, rule := .beginRule })
  | .reconnect t n => some (t, n, { code := 2, length := 3, rule := .reconnectRule })
  | .resetCommand t n => some (t, n, { code := 3, length := 3, rule := .everyMode })
  | .status t n => some (t, n, { code := 4, length := 3, rule := .everyMode, duringStore := true })
  | .poll t n => some (t, n, { code := 5, length := 3, rule := .everyMode })
  | .readGroup t n _ => some (t, n, { code := 6, length := 5, rule := .everyMode })
  | .readReg t n _ _ => some (t, n, { code := 7, length := 7, rule := .everyMode })
  | .surveyRead t n _ => some (t, n, { code := 8, length := 4, rule := .everyMode })
  | .openGroup t n _ => some (t, n, { code := 9, length := 15, rule := .operateAlone })
  | .disband t n _ => some (t, n, { code := 10, length := 5, rule := .notInFallback })
  | .retire t n _ => some (t, n, { code := 11, length := 5, rule := .notInFallback })
  | .moveGroup t n _ _ => some (t, n, { code := 12, length := 6, rule := .operateAlone })
  | .setArea t n _ _ => some (t, n, { code := 13, length := 6, rule := .notInFallback })
  | .haltGroup t n _ => some (t, n, { code := 14, length := 5, rule := .notInFallback })
  | .allHalt t n => some (t, n, { code := 15, length := 3, rule := .notInFallback })
  | .releaseHalt t n _ => some (t, n, { code := 16, length := 5, rule := .notInFallback })
  | .floorClear t n _ => some (t, n, { code := 17, length := 4, rule := .notInFallback })
  | .setChannel t n _ => some (t, n, { code := 18, length := 18, rule := .notInFallback })
  | .setDevice t n _ => some (t, n, { code := 19, length := 18, rule := .notInFallback })
  | .loadCurve t n _ count values =>
    if count = values.length then some (t, n, { code := 20, length := 5 + 2 * count, rule := .notInFallback }) else none
  | .setPairing t n _ => some (t, n, { code := 21, length := 13, rule := .notInFallback })
  | .store t n => some (t, n, { code := 22, length := 3, rule := .notInFallback })
  | .clearAttention t n _ => some (t, n, { code := 23, length := 6, rule := .notInFallback })
  | _ => none

/-! ### Results that several commands share -/

/-- R10, R44: what the retirement of the group `g` of slot `i` with outcome `o` leaves of `s`, the radios `rs` being
returned to a table that has room for them: the slot is FREE with its mark set, its phase is free, nothing is pending at
its phase's source, and the other slots are as they were. -/
structure Retired (s u : State) (i : SlotId) (g : Group) (o : SlotOutcome) (rs : List (Radio × RadioKind)) : Prop where
  slot : u.slot i = { changed := true, body := .free o }
  others : ∀ j, j ≠ i → u.slot j = s.slot j
  table : u.table = s.table ++ rs.map fun r =>
    { radio := r.1, kind := r.2, channel := g.channel, level := 0, lastHeard := s.now, pinned := none }
  phase : (u.chan g.channel).occupancy.get g.phase = none
  requests : ∀ r ∈ (u.chan g.channel).reqs, r.source ≠ .phase g.phase

/-- R81, R82: a group that has entered HALT with the causes `cs`: its order, its approach record and its pending join are
gone, its mark is set, its beat is a HALT request, and the newest notice tells the leader. -/
structure Halted (u : State) (i : SlotId) (cs : Causes) : Prop where
  group : ∃ g, u.group i = some g ∧ g.state = .halt ∧ g.causes = cs ∧ g.order = none ∧ g.approach = none
    ∧ g.join = none ∧ g.notices.getLast? = some { notice := .halted cs, dest := .leader }
    ∧ u.isPending g.channel (.phase g.phase) .halt = true ∧ u.isPending g.channel (.phase g.phase) .beat = false
  mark : (u.slot i).changed = true

/-- R20, R50, R125 to R137, R162, R179, R180: a channel right after a reset at `now` with the profile's part `p`. -/
structure ChannelReset (p : ChannelProfile) (now : Instant) (ch : Channel) : Prop where
  settings : ch.mode = p.mode ∧ ch.period = p.period ∧ ch.config = p.config ∧ ch.pendingPeriod = none
  epoch : ch.epoch = if p.mode = .live then some now else none
  line : ch.ready = false ∧ ch.inFlight = none ∧ ch.lastTxEnd = none
  phases : ∀ q, ch.occupancy.get q = none
  requests : ch.reqs = if p.mode = .live then [{ source := .channel, kind := .restart, body := .plain }] else []
  queues : ch.talk = none ∧ ch.talkQueue = [] ∧ ch.notices = []
  survey : ch.survey.last = .none ∧ ch.survey.jammed = false ∧ ch.survey.sample = .none ∧ ch.survey.count = 0

/-- R171, R172, R176, R179 to R181: the machine right after a reset of `s` at `now` that loads `p`. -/
structure AfterReset (s u : State) (now : Instant) (p : Profile) : Prop where
  mode : u.mode = .startup ∧ u.silenceSince = none ∧ u.storing = none
  startup : u.startupExpiry = if p.device.startup = 0 then none else some (now + 1000 * p.device.startup)
  slots : ∀ i, u.slot i = { changed := false, body := .free .none }
  table : u.table = []
  channels : ∀ c, ChannelReset (p.channels.get c) now (u.chan c)
  device : u.device = p.device
  pairings : ∀ k, u.pairings.get k = { pairing := p.pairings.get k, held := false }
  profile : u.profile = s.profile ∧ u.profileValid = s.profileValid

end Sys2Proof.Machine
end

