-- ==== Sys2Proof/Certificates/Slice0/Obligations.lean ====
section
/-! DEFINITION. The statements for the provers. Where a statement gives a command's result as `.next u.finish`, `u`
holds what the command itself does and `State.finish` is the end of a command (samples lost, the examination of the
pairings, the hand-overs), the subject of `Obligations.ArbitersStayQuiet` and `Obligations.ChainWinner`. That a command
carries its instant, and that one command is one whole step, is the model's way of taking 95 ("What each step holds")
(notes/assumptions/1.md and 4.md). -/

open Sys2Proof Sys2Proof.Machine

/-! ### The step -/

/-- 95 ("What each step holds"): a command is taken whole. The queue of waiting commands and the idling on an empty one
are the model's (notes/assumptions/3.md). -/
def Obligations.StepRunsFrontCommand : Prop :=
  (∀ c rest (s : State), s.pending = c :: rest → step s = exec c { s with pending := rest })
    ∧ ∀ s : State, s.pending = [] → step s = .next s

/-- No command stops the controller; none touches the queue or turns the clock back. -/
def Obligations.EveryCommandCompletes : Prop :=
  ∀ i (s : State), ∃ u : State, exec i s = .next u ∧ u.pending = s.pending ∧ s.now ≤ u.now

/-! ### Invariants -/

/-- R76, R99, R112, R115 and the rules that `Group.Sound` cites. -/
def Obligations.GroupsStaySound : Prop := ∀ s s' : State, s.GroupsSound → step s = .next s' → s'.GroupsSound

/-- R70 to R72: ACTIVE and DEGRADED agree with the warn threshold in force after every step. -/
def Obligations.WarnStaysSound : Prop :=
  ∀ s s' : State, s.GroupsSound → s.WarnSound → step s = .next s' → s'.WarnSound

/-- R55: no phase is ever held by two groups, and each group holds exactly its own phases. -/
def Obligations.PhasesStaySound : Prop :=
  ∀ s s' : State, s.GroupsSound → s.PhasesSound → step s = .next s' → s'.PhasesSound

/-- R2, R8, R12: no radio ever has two places, and the Registration Table keeps its capacity. -/
def Obligations.RadiosStaySound : Prop := ∀ s s' : State, s.RadiosSound → step s = .next s' → s'.RadiosSound

/-- R128, R135, R137, R162: the channels' sets, queues and surveys. -/
def Obligations.ChannelsStaySound : Prop := ∀ s s' : State, s.ChannelsSound → step s = .next s' → s'.ChannelsSound

/-- R144, R146: a talk floor is never left with a radio that may not hold it. -/
def Obligations.FloorsStaySound : Prop :=
  ∀ s s' : State, s.GroupsSound → s.PhasesSound → s.RadiosSound → s.ChannelsSound → s.FloorsSound → step s = .next s' →
    s'.FloorsSound

/-- R175, R185: no write leaves a setting out of its range. -/
def Obligations.SettingsStayInRange : Prop := ∀ s s' : State, s.SettingsSound → step s = .next s' → s'.SettingsSound

/-- R172, R173, R177: the timers of Mode Control and the valid mark. -/
def Obligations.DeviceStaysSound : Prop := ∀ s s' : State, s.DeviceSound → step s = .next s' → s'.DeviceSound

/-- R131: the end of a command leaves nothing to settle, so that no step leaves an eligible request at an arbiter that
could hand it over. -/
def Obligations.ArbitersStayQuiet : Prop :=
  (∀ s : State, s.finish.Quiet) ∧ ∀ s s' : State, s.Quiet → step s = .next s' → s'.Quiet

/-- R20, R179, R181: the machine after reset has every invariant above. -/
def Obligations.ResetStateSound : Prop :=
  State.reset.GroupsSound ∧ State.reset.WarnSound ∧ State.reset.PhasesSound ∧ State.reset.RadiosSound
    ∧ State.reset.ChannelsSound ∧ State.reset.FloorsSound ∧ State.reset.SettingsSound ∧ State.reset.DeviceSound
    ∧ State.reset.Quiet

/-! ### The whole machine -/

/-- R171, the table of mode changes: no other command changes the device mode. -/
def Obligations.ModeChanges : Prop :=
  ∀ i (s u : State), exec i s = .next u → u.mode ≠ s.mode →
    (∃ t n, i = .beginOperate t n ∧ s.mode = .startup ∧ u.mode = .operate)
      ∨ (∃ t, i = .startupTimerExpiry t ∧ s.mode = .startup ∧ u.mode = .fallback)
      ∨ (∃ t, i = .hostSilenceExpiry t ∧ s.mode = .operate ∧ u.mode = .fallback)
      ∨ (∃ t n, i = .reconnect t n ∧ s.mode = .fallback ∧ u.mode = .operate)
      ∨ (u.mode = .startup ∧ ((∃ t a b, i = .powerReset t a b) ∨ (∃ t a b, i = .lineReset t a b)
          ∨ ∃ t n, i = .resetCommand t n))

/-- R175, R177, R183, R91: only the completion of a STORE writes the profile, only the host, FALLBACK entry and a reset
change a device setting, only a transaction and a reset change the holding place, and only the area lines and a reset
change their held levels. -/
def Obligations.WhoWritesWhat : Prop :=
  ∀ i (s u : State), exec i s = .next u →
    (u.profile ≠ s.profile → ∃ t, i = .storeCompletion t)
      ∧ (u.device ≠ s.device →
        (∃ t n a, i = .setDevice t n a) ∨ (∃ t n f k v, i = .loadCurve t n f k v) ∨ (∃ t, i = .startupTimerExpiry t)
          ∨ (∃ t, i = .hostSilenceExpiry t) ∨ (∃ t a b, i = .powerReset t a b) ∨ (∃ t a b, i = .lineReset t a b)
          ∨ ∃ t n, i = .resetCommand t n)
      ∧ (u.response ≠ s.response →
        (portCommand i).isSome = true ∨ (∃ t n, i = .fillerTransaction t n) ∨ (∃ t n k l, i = .malformedFrame t n k l)
          ∨ (∃ t n f k v, i = .loadCurve t n f k v) ∨ (∃ t a b, i = .powerReset t a b) ∨ ∃ t a b, i = .lineReset t a b)
      ∧ ((u.areaA ≠ s.areaA ∨ u.areaB ≠ s.areaB) →
        (∃ t l, i = .areaAsserted t l) ∨ (∃ t l, i = .areaReleased t l) ∨ (∃ t a b, i = .powerReset t a b)
          ∨ ∃ t a b, i = .lineReset t a b)

/-- R184, steps 1 to 3, with R171's mode rule and R177: what turns a frame away, and that it then has no effect beyond
the transaction's own on the holding place and the silence measurement. -/
def Obligations.FramesTurnedAway : Prop :=
  ∀ i t n k (s : State), portCommand i = some (t, n, k) →
    (n < k.length → exec i s = .next ((s.begun t n).answer k.code .malformed .none))
      ∧ (k.length ≤ n → s.storing.isSome = true → k.duringStore = false →
          exec i s = .next ((s.begun t n).answer k.code .busy .none))
      ∧ (k.length ≤ n → s.storing = none → s.mode = .fallback →
          k.rule = .notInFallback ∨ k.rule = .operateAlone ∨ k.rule = .beginRule →
          exec i s = .next ((s.begun t n).answer k.code .fallback .none))
      ∧ (k.length ≤ n → s.storing = none →
          (k.rule = .operateAlone ∧ s.mode = .startup) ∨ (k.rule = .beginRule ∧ s.mode = .operate)
            ∨ (k.rule = .reconnectRule ∧ s.mode ≠ .fallback) →
          exec i s = .next ((s.begun t n).answer k.code (.refused .state) .none))

/-! ### Computations -/

/-- R118: the band, the permitted speed by interpolation that truncates toward zero, and its bounds. -/
def Obligations.PermittedSpeed : Prop :=
  ∀ (curve : Vector Nat 32) (k r : Nat),
    (31 ≤ r / 2 ^ k → permittedSpeed curve k r = curve.get 31)
      ∧ ∀ b b' : Fin 32, b.val = r / 2 ^ k → b'.val = b.val + 1 →
        (permittedSpeed curve k r : Int)
            = curve.get b + ((curve.get b' - curve.get b) * (r - b.val * 2 ^ k) : Int).tdiv (2 ^ k)
          ∧ min (curve.get b) (curve.get b') ≤ permittedSpeed curve k r
          ∧ permittedSpeed curve k r ≤ max (curve.get b) (curve.get b')
          ∧ (r % 2 ^ k = 0 → permittedSpeed curve k r = curve.get b)

/-- R130 to R132: a resolution has no winner exactly where nothing is eligible; a winner is eligible, no request stands
at a higher level, a tie stays with the source nearer the head of the chain, and at one source with the kind first in
the kind order. -/
def Obligations.ChainWinner : Prop :=
  ∀ (s : State) c, (s.chan c).mayHandOver = true →
    (s.winner c = none ↔ ∀ r ∈ s.pendingSet c, (s.chan c).eligible r = false)
      ∧ ∀ w, s.winner c = some w →
        w ∈ s.pendingSet c ∧ (s.chan c).eligible w = true
          ∧ ∀ r ∈ s.pendingSet c, (s.chan c).eligible r = true →
            r.kind.level < w.kind.level
              ∨ (r.kind.level = w.kind.level
                ∧ (w.source.place < r.source.place ∨ (w.source = r.source ∧ w.kind.place ≤ r.kind.place)))

/-- R77: a cause leaves the set in any state, the state stays, each removal of a present cause sets the mark, an absent
cause changes nothing, and two removals may be taken in either order. -/
def Obligations.CauseRemoval : Prop :=
  ∀ (s : State) i (g : Machine.Group) c, s.group i = some g →
    (g.causes.has c = true →
        s.removeCause i c = s.setSlot i { changed := true, body := .held { g with causes := g.causes.del c } })
      ∧ (g.causes.has c = false → s.removeCause i c = s)
      ∧ ∀ d, (s.removeCause i c).removeCause i d = (s.removeCause i d).removeCause i c

/-- R182: the attention line, and that it is asserted after a POWER reset. -/
def Obligations.AttentionLine : Prop :=
  (∀ s : State, s.attentionLine = true ↔ s.attention ≠ [] ∨ ∃ i, (s.slot i).changed = true)
    ∧ ∀ t a b (s u : State), exec (.powerReset t a b) s = .next u → u.attentionLine = true

/-! ### Uplink frames -/

/-- R13: a discarded frame of any kind changes no record (the clock apart). -/
def Obligations.DiscardedFrames : Prop :=
  ∀ k t c f (s : State), s.Quiet →
    f.integrity = .fail ∨ f.kindListed = false ∨ f.sender = 0 ∨ f.sender = 16777215 ∨ (s.chan c).mode = .off →
    exec (uplinkCommand k t c f) s = .next (s.tick t)

/-- R3, R4, R11, R31: a CHECK-IN from an unknown radio, with room and without, and from a radio with an unpinned
entry. The call number 0 of the channel notices is the model's choice (notes/assumptions/13.md). -/
def Obligations.CheckInRegisters : Prop :=
  ∀ t c f k (s : State), radioKindOf f.declared = some k →
    (FromUnknown s c f → s.table.length < 96 →
      ∃ u : State, exec (.checkIn t c f) s = .next u.finish
        ∧ u.table = s.table ++
          [{ radio := f.sender, kind := k, channel := c, level := min f.level 63, lastHeard := max s.now t,
             pinned := none }]
        ∧ u.chans = (s.setChan c ((s.chan c).noted (.registered c) f.sender 0)).chans
        ∧ u.slots = s.slots ∧ u.attention = s.attention ∧ u.examine = true
        ∧ ∀ j, u.pairings.get j = if (s.pairings.get j).pairing.loco = f.sender
          ∨ (s.pairings.get j).pairing.leader = f.sender
            then { s.pairings.get j with held := false } else s.pairings.get j)
    ∧ (FromUnknown s c f → 96 ≤ s.table.length →
      exec (.checkIn t c f) s = .next
        { (s.tick t).setChan c ((s.chan c).noted (.notice .registryFull) f.sender 0) with
          attention := attnAdd .registryFull s.attention }.finish)
    ∧ ∀ e, Arrives s c f → s.entry f.sender = some e → e.pinned = none →
      ∃ u : State, exec (.checkIn t c f) s = .next u.finish
        ∧ u.table = s.table.filter (fun x => x.radio != f.sender) ++
          [{ radio := f.sender, kind := k, channel := c, level := min f.level 63, lastHeard := max s.now t,
             pinned := none }]
        ∧ u.slots = s.slots ∧ u.attention = s.attention ∧ u.examine = true

/-- R16, R64, R67, R71, R72, R78: an ANSWER from the leader or a crew member: its level is 7, a window that targets it
is closed, and from the leader LEADER_LINK is removed and a DEGRADED group above the threshold becomes ACTIVE. -/
def Obligations.AnswerFromHandset : Prop :=
  ∀ t c f i (g : Machine.Group) (s : State), s.WarnSound → s.device.warn < 7 →
    (FromMember s c f i .crew g → g.usesChannel c = true →
      exec (.answer t c f) s = .next ((s.tick t).setSlot i
        { changed := (s.slot i).changed || decide (g.levelOf f.sender .crew ≤ s.device.warn),
          body := .held { g.answered f.sender with
            crew := g.crew.map fun m => if m.radio = f.sender then { m with level := 7 } else m } }).finish)
    ∧ (FromMember s c f i .leader g →
      exec (.answer t c f) s = .next ((s.tick t).setSlot i
        { changed := (s.slot i).changed || decide (g.leader.level ≤ s.device.warn) || g.causes.leaderLink,
          body := .held
            (if g.state = .degraded ∧ s.device.warn < g.loco.level then
              { g.answered f.sender with
                leader := { g.leader with level := 7 }
                causes := g.causes.del .leaderLink
                state := .active
                notices := pushNotice g.notices { notice := .linkRestored, dest := .leader } }
            else
              { g.answered f.sender with
                leader := { g.leader with level := 7 }
                causes := g.causes.del .leaderLink }) }).finish)

/-- R18, R67, R72, R78, R79: an ANSWER or a STATUS from the loco of a group with no approach record: the loco record
takes the frame's motion, speed and odometer, LOCO_LINK is removed, and STANDING removes OVERSPEED. -/
def Obligations.LocoReport : Prop :=
  ∀ t c f i (g : Machine.Group) (s : State), s.WarnSound → s.device.warn < 7 → FromMember s c f i .loco g →
  g.approach = none →
    ∀ cmd ∈ [Instr.answer t c f, Instr.statusFrame t c f],
      exec cmd s = .next ((s.tick t).setSlot i
        { changed := (s.slot i).changed || decide (g.loco.level ≤ s.device.warn) || g.causes.locoLink
            || (decide (f.motion = 0) && g.causes.overspeed),
          body := .held
            (if g.state = .degraded ∧ s.device.warn < g.leader.level then
              { g.answered f.sender with
                loco := { radio := g.loco.radio, level := 7, motion := motionOf f.motion, speed := some (min f.speed 400),
                          odometer := some f.odometer }
                causes := if f.motion = 0 then (g.causes.del .locoLink).del .overspeed else g.causes.del .locoLink
                state := .active
                notices := pushNotice g.notices { notice := .linkRestored, dest := .leader } }
            else
              { g.answered f.sender with
                loco := { radio := g.loco.radio, level := 7, motion := motionOf f.motion, speed := some (min f.speed 400),
                          odometer := some f.odometer }
                causes := if f.motion = 0 then (g.causes.del .locoLink).del .overspeed else g.causes.del .locoLink }) }).finish

/-- R116, R119, R122, R81: a STATUS whose speed exceeds the permitted speed by more than the halt excess halts the
group. -/
def Obligations.OverspeedHalts : Prop :=
  ∀ t c f i (g : Machine.Group) ap (s : State), s.GroupsSound → FromMember s c f i .loco g → g.approach = some ap →
    (s.device.haltExcess : Int)
      < (min f.speed 400 : Nat) - permittedSpeed s.device.curve s.device.bandShift (ap.d0 - travelled f.odometer ap.ref) →
    ∃ u : State, exec (.statusFrame t c f) s = .next u.finish ∧ Halted u i (Causes.single .overspeed)

/-! ### Orders -/

/-- R100, R102, R103, R106, R113: an ORDER in ACTIVE or DEGRADED with no move record: taken where none is in flight, and
refused with STOP PENDING where it is no STOP and a STOP is in flight. -/
def Obligations.OrderTaken : Prop :=
  ∀ t c f i (g g1 : Machine.Group) k (s : State), FromMember s c f i .leader g →
  ((s.tick t).presence i f.sender).group i = some g1 →
    g1.state = .active ∨ g1.state = .degraded → g1.move = none → orderKindOf f.orderKind = some k →
    (g1.order = none →
      exec (.order t c f) s = .next ((((s.tick t).presence i f.sender).setSlot i
        { changed := (((s.tick t).presence i f.sender).slot i).changed,
          body := .held { g1 with
                          order := some
                            { order := { kind := k, arg := if k = .count then min f.argument 31 else 0, seq := f.sequence % 16 },
                              expiry := none } } }).raise g1.channel (.phase g1.phase) .relay .plain).finish)
    ∧ ∀ o, g1.order = some o → o.order.kind = .stop → k ≠ .stop →
      exec (.order t c f) s = .next (((s.tick t).presence i f.sender).setSlot i
        { changed := (((s.tick t).presence i f.sender).slot i).changed,
          body := .held (g1.told (.stopPending o.order.seq)) }).finish

/-- R108, R109, R115: an ORDER-ACK confirms the SENT order whose sequence it carries; COUNT begins an approach record
and FORWARD, BACKWARD and STOP end one. -/
def Obligations.OrderConfirmed : Prop :=
  ∀ t c f i (g g1 : Machine.Group) o e (s : State), FromMember s c f i .loco g →
    (((s.tick t).presence i f.sender).locoUpdate i f).group i = some g1 →
    g1.order = some { order := o, expiry := some e } → f.sequence % 16 = o.seq →
    (o.kind = .forward ∨ o.kind = .backward ∨ o.kind = .stop →
      ∃ u : State, exec (.orderAck t c f) s = .next u.finish
        ∧ u.group i = some { g1 with
            order := none
            lastConfirmed := some { kind := o.kind, arg := o.arg }
            approach := none
            notices := pushNotice g1.notices { notice := .confirmed o.seq, dest := .leader } }
        ∧ (u.slot i).changed = true ∧ (∀ j, j ≠ i → u.slot j = s.slot j)
        ∧ u.isPending g1.channel (.phase g1.phase) .relay = false ∧ u.table = s.table ∧ u.attention = s.attention)
    ∧ (o.kind = .count → g1.approach = none → g1.state = .active ∨ g1.state = .degraded →
        (min f.speed 400 : Nat) ≤ permittedSpeed s.device.curve s.device.bandShift (o.arg * g1.wagon) →
        0 < o.arg * g1.wagon → s.device.easeTol ≤ s.device.haltExcess → f.odometer < 65536 →
      ∃ u : State, exec (.orderAck t c f) s = .next u.finish
        ∧ u.group i = some { g1 with
            order := none
            lastConfirmed := some { kind := .count, arg := o.arg }
            approach := some { d0 := o.arg * g1.wagon, ref := f.odometer, latch := false }
            notices := pushNotice g1.notices { notice := .confirmed o.seq, dest := .leader } }
        ∧ (u.slot i).changed = true ∧ (∀ j, j ≠ i → u.slot j = s.slot j)
        ∧ u.isPending g1.channel (.phase g1.phase) .relay = false ∧ u.table = s.table ∧ u.attention = s.attention)

/-- R80: a HALT-ACK removes STOP_UNCONFIRMED and empties the unconfirmed-stop record; without the cause it is the loco's
report alone. -/
def Obligations.HaltAcknowledged : Prop :=
  ∀ t c f i (g g1 : Machine.Group) (s : State), FromMember s c f i .loco g →
    (((s.tick t).presence i f.sender).locoUpdate i f).group i = some g1 → g1.approach = none →
    (g1.causes.stopUnconfirmed = true →
      exec (.haltAck t c f) s = .next ((((s.tick t).presence i f.sender).locoUpdate i f).setSlot i
        { changed := true,
          body := .held { g1 with unconfirmed := none, causes := g1.causes.del .stopUnconfirmed } }).finish)
    ∧ (g1.causes.stopUnconfirmed = false →
      exec (.haltAck t c f) s = .next (((s.tick t).presence i f.sender).locoUpdate i f).finish)

/-- R111, R112: a SENT order times out; an unconfirmed STOP is recorded and halts the group. -/
def Obligations.OrderTimesOut : Prop :=
  ∀ t i (g : Machine.Group) o e (s : State), s.group i = some g → g.order = some { order := o, expiry := some e } →
  e ≤ max s.now t →
    (o.kind ≠ .stop →
      ∃ u : State, exec (.orderTimeout t i) s = .next u.finish
        ∧ u.group i = some { g with
            order := none, notices := pushNotice g.notices { notice := .unconfirmed o.seq, dest := .leader } }
        ∧ (u.slot i).changed = true ∧ (∀ j, j ≠ i → u.slot j = s.slot j)
        ∧ u.isPending g.channel (.phase g.phase) .relay = false ∧ u.table = s.table ∧ u.attention = s.attention)
    ∧ (o.kind = .stop → s.GroupsSound →
      ∃ u : State, exec (.orderTimeout t i) s = .next u.finish ∧ Halted u i (Causes.single .stopUnconfirmed)
        ∧ ∃ g' : Machine.Group, u.group i = some g' ∧ g'.unconfirmed = some o.seq)

/-! ### Attachment, release, retirement -/

/-- R18, R27: an ATTACH-ACK makes an OPENING group above the warn threshold ACTIVE. -/
def Obligations.AttachmentCompletes : Prop :=
  ∀ t c f i (g g1 : Machine.Group) e (s : State), FromMember s c f i .loco g →
    (((s.tick t).presence i f.sender).odometerUpdate i f).group i = some g1 →
    g1.wait = some { kind := .attach, expiry := e } → g1.state = .opening → g1.warned s.device.warn = false →
    ∃ u : State, exec (.attachAck t c f) s = .next u.finish
      ∧ u.group i = some { g1 with
          wait := none
          state := .active
          notices := pushNotice g1.notices { notice := .assigned g1.loco.radio, dest := .leader } }
      ∧ g1.loco.odometer = some f.odometer
      ∧ (u.slot i).changed = true ∧ (∀ j, j ≠ i → u.slot j = s.slot j)
      ∧ u.isPending g1.channel (.phase g1.phase) .attach = false ∧ u.table = s.table

/-- R10, R28, R43 to R45: the three ways in which a group that holds no pending join, no move record and no talk floor
retires, each with its outcome and the radios it returns. -/
def Obligations.GroupsRetire : Prop :=
  ∀ i (g : Machine.Group) (s : State), s.group i = some g → g.join = none → g.move = none → g.finalHalt = none →
    (∀ c h, (s.chan c).talk = some h → h.radio ∉ g.radios) → s.table.length + 2 + g.crew.length ≤ 96 →
    (∀ t c f e, FromMember s c f i .loco g → g.wait = some { kind := .release, expiry := e } →
      ∃ u : State, exec (.releaseAck t c f) s = .next u.finish
        ∧ Retired (s.tick t) u i g .disbanded
          ((g.loco.radio, .loco) :: (g.leader.radio, .handset) :: g.crew.map fun m => (m.radio, .handset)))
    ∧ (∀ t e, g.wait = some { kind := .attach, expiry := some e } → e ≤ max s.now t →
      ∃ u : State, exec (.attachTimeout t i) s = .next u.finish
        ∧ Retired (s.tick t) u i g .openFailed [(g.loco.radio, .loco), (g.leader.radio, .handset)]
        ∧ ∀ k, g.pairing = some k → (u.pairings.get k).held = true)
    ∧ ∀ t n gf, NamesGroup s gf i → 5 ≤ n → s.storing = none → s.mode ≠ .fallback →
      ∃ u : State, exec (.retire t n gf) s
          = .next (u.finish.answer 11 .done (.retired i
              (if g.causes.locoLink = true ∧ g.causes.leaderLink = true then .crewOnly else .forced)))
        ∧ Retired (s.begun t n) u i g
          (if g.causes.locoLink = true ∧ g.causes.leaderLink = true then .crewOnly else .forced)
          ((g.loco.radio, .loco) :: (g.leader.radio, .handset) :: g.crew.map fun m => (m.radio, .handset))
        ∧ u.isPending g.channel .channel .release = true

/-- R40, R41: a DISBAND, from the leader and from the host, of a group that holds no pending join, no move record and no
talk floor starts its release. -/
def Obligations.DisbandStartsRelease : Prop :=
  ∀ i (g g1 : Machine.Group) (s : State),
    (∀ t c f, FromMember s c f i .leader g → ((s.tick t).presence i f.sender).group i = some g1 →
      g1.disbandable = true →
      g1.join = none → g1.move = none → g1.finalHalt = none →
      (∀ d h, (s.chan d).talk = some h → h.radio ∉ g1.radios) →
      ∃ u : State, exec (.disbandFrame t c f) s = .next u.finish
        ∧ u.group i = some { g1 with
            state := .releasing, order := none, approach := none, window := none,
            wait := some { kind := .release, expiry := none } }
        ∧ (u.slot i).changed = true ∧ (∀ j, j ≠ i → u.slot j = s.slot j)
        ∧ u.isPending g1.channel (.phase g1.phase) .release = true
        ∧ u.isPending g1.channel (.phase g1.phase) .beat = false
        ∧ u.isPending g1.channel (.phase g1.phase) .halt = false)
    ∧ (∀ t n gf, NamesGroup s gf i → 5 ≤ n → s.storing = none → s.mode ≠ .fallback → s.group i = some g →
      g.join = none → g.move = none → g.finalHalt = none →
      (∀ d h, (s.chan d).talk = some h → h.radio ∉ g.radios) →
      if g.disbandable = true then
        ∃ u : State, exec (.disband t n gf) s = .next (u.finish.answer 10 .done (.slot i))
          ∧ u.group i = some { g with
              state := .releasing, order := none, approach := none, window := none,
              wait := some { kind := .release, expiry := none } }
          ∧ (u.slot i).changed = true ∧ (∀ j, j ≠ i → u.slot j = s.slot j)
          ∧ u.isPending g.channel (.phase g.phase) .release = true
          ∧ u.isPending g.channel (.phase g.phase) .beat = false
          ∧ u.isPending g.channel (.phase g.phase) .halt = false
      else
        exec (.disband t n gf) s
          = .next ((s.begun t n).answer 10 (.refused .state) .none))

/-- R42, R84: the expiry of a RELEASE wait adds RELEASE_LOST and halts the group. -/
def Obligations.ReleaseLost : Prop :=
  ∀ t i (g : Machine.Group) e (s : State), s.group i = some g → g.state = .releasing →
  g.wait = some { kind := .release, expiry := some e } →
    e ≤ max s.now t →
    ∃ u : State, exec (.releaseTimeout t i) s = .next u.finish ∧ Halted u i (g.causes.add .releaseLost)
      ∧ ∃ g' : Machine.Group, u.group i = some g' ∧ g'.wait = none

/-! ### The talk floor -/

/-- R138 to R141: a TALK-REQ in ACTIVE or DEGRADED with no move record: granted on a free floor, extended for the
holder, queued behind another holder. -/
def Obligations.TalkRequest : Prop :=
  ∀ t c f i role (g g1 : Machine.Group) (s : State), FromMember s c f i role g →
  ((s.tick t).presence i f.sender).group i = some g1 →
    g1.state = .active ∨ g1.state = .degraded → g1.move = none →
    ((s.chan g1.channel).talk = none →
      ∃ u : State, exec (.talkReq t c f) s = .next u.finish
        ∧ (u.chan g1.channel).talk
            = some { radio := f.sender, expiry := max s.now t + 1000 * (s.chan g1.channel).config.talkWindow }
        ∧ (u.chan g1.channel).talkQueue = (s.chan g1.channel).talkQueue
        ∧ u.isPending g1.channel .channel .talkGrant = true
        ∧ (∀ d, d ≠ g1.channel → u.chan d = s.chan d) ∧ u.table = s.table ∧ u.attention = s.attention)
    ∧ ∀ h, (s.chan g1.channel).talk = some h →
      (h.radio = f.sender →
        exec (.talkReq t c f) s = .next (((s.tick t).presence i f.sender).setChan g1.channel
          { s.chan g1.channel with
            talk :=
              some { radio := f.sender, expiry := max s.now t + 1000 * (s.chan g1.channel).config.talkWindow } }).finish)
      ∧ (h.radio ≠ f.sender → f.sender ∉ (s.chan g1.channel).talkQueue → (s.chan g1.channel).talkQueue.length < 4 →
        exec (.talkReq t c f) s = .next (((s.tick t).presence i f.sender).setChan g1.channel
          { s.chan g1.channel with talkQueue := (s.chan g1.channel).talkQueue ++ [f.sender] }).finish)

/-- R142 to R145, R147: the ends of a grant. At its expiry and at the holder's TALK-END the floor passes to the first
eligible radio of the queue, the ones before it being dropped, and is free where none is eligible; FLOOR-CLEAR frees it and
empties the queue. A TALK-END from a queued radio takes it out of the queue. -/
def Obligations.GrantEnds : Prop :=
  (∀ t c f i role (g : Machine.Group) h (s : State), FromMember s c f i role g → (s.chan g.channel).talk = some h →
    h.radio = f.sender →
    (s.chan g.channel).talkQueue = [] →
    exec (.talkEnd t c f) s = .next (((s.tick t).presence i f.sender).setChan g.channel
      ((s.chan g.channel).freed h.radio (max s.now t))).finish)
  ∧ (∀ t c f i role (g : Machine.Group) (s : State), FromMember s c f i role g →
    (∀ h, (s.chan g.channel).talk = some h → h.radio ≠ f.sender) →
    exec (.talkEnd t c f) s = .next (((s.tick t).presence i f.sender).setChan g.channel
      { s.chan g.channel with talkQueue := (s.chan g.channel).talkQueue.filter fun x => x != f.sender }).finish)
  ∧ (∀ t c h (s : State), (s.chan c).talk = some h → h.expiry ≤ max s.now t →
    (∀ x ∈ (s.chan c).talkQueue, s.talkEligible c x = false) →
    exec (.talkWindowExpiry t c) s = .next ((s.tick t).setChan c ((s.chan c).freed h.radio (max s.now t))).finish)
  ∧ (∀ t c h q₁ x q₂ j role (s : State), (s.chan c).talk = some h → h.expiry ≤ max s.now t →
    (s.chan c).talkQueue = q₁ ++ x :: q₂ → (∀ y ∈ q₁, s.talkEligible c y = false) → s.talkEligible c x = true →
    s.memberPlace x = some (j, role) →
    exec (.talkWindowExpiry t c) s
      = .next (((s.tick t).setChan c ((s.chan c).passed h.radio x q₂ (max s.now t))).refresh j x).finish)
  ∧ ∀ t n (c : Chan) h (s : State), 4 ≤ n → s.storing = none → s.mode ≠ .fallback → (s.chan c).talk = some h →
    exec (.floorClear t n c.val) s = .next (((s.begun t n).setChan c
      ((s.chan c).freed h.radio (max s.now t))).finish.answer 17 .done .none)

/-! ### Membership -/

/-- R8, R32, R33: a JOIN that passes every check pins the handset's entry and starts a pending join. -/
def Obligations.JoinStarts : Prop :=
  ∀ t c f e i (g : Machine.Group) (s : State), FromRegistered s c f e → e.kind = .handset → e.pinned = none →
  s.slotOfCall f.call = some i →
    s.group i = some g → g.state = .active ∨ g.state = .degraded → g.crew.length < 4 → g.join = none →
    e.channel = g.channel → (s.chan g.channel).survey.jammed = false →
    exec (.join t c f) s = .next
      { (s.tick t).setSlot i
          { changed := true,
            body := .held { g with
              join := some { radio := f.sender, expiry := max s.now t + 1000 * s.device.joinTimeout }
              notices := pushNotice g.notices { notice := .joinRequest f.sender, dest := .leader } } } with
        table := s.table.map fun x : RegEntry => if x.radio = f.sender then { x with pinned := some i } else x }.finish

/-- R9, R34: an ADMIT naming the pending join's handset takes it from the table into the crew; the handset is told on
its entry's channel. -/
def Obligations.AdmitJoins : Prop :=
  ∀ t c f i (g g1 : Machine.Group) j e (s : State), FromMember s c f i .leader g →
  ((s.tick t).presence i f.sender).group i = some g1 →
    g1.join = some j → j.radio = f.named → s.entry f.named = some e →
    exec (.admitFrame t c f) s = .next
      { (((s.tick t).presence i f.sender : State).setChan e.channel
          ((s.chan e.channel).noted (.notice .admitted) f.named g1.call)).setSlot i
          { changed := true,
            body := .held { g1 with join := none, crew := g1.crew ++ [({ radio := f.named, level := 7 } : Member)] } } with
        table := s.table.filter fun x : RegEntry => x.radio != f.named }.finish

/-- R6, R8, R35, R36: the ends of a pending join whose handset stays registered (a REFUSE, a join timeout), and the
expiry of an unpinned entry. -/
def Obligations.JoinEnds : Prop :=
  (∀ t c f i (g g1 : Machine.Group) j e (s : State), FromMember s c f i .leader g →
    ((s.tick t).presence i f.sender).group i = some g1 →
    g1.join = some j → j.radio = f.named → s.entry f.named = some e →
    max s.now t < e.lastHeard + 1000 * s.device.regExpiry →
    exec (.refuse t c f) s = .next
      { (((s.tick t).presence i f.sender : State).setChan e.channel
          ((s.chan e.channel).noted (.notice (.refused false)) f.named g1.call)).setSlot i
          { changed := true, body := .held { g1 with join := none } } with
        table := s.table.map fun x : RegEntry => if x.radio = f.named then { x with pinned := none } else x }.finish)
  ∧ (∀ t i (g : Machine.Group) j e (s : State), s.group i = some g → g.join = some j → j.expiry ≤ max s.now t →
    s.entry j.radio = some e →
    max s.now t < e.lastHeard + 1000 * s.device.regExpiry →
    exec (.joinTimeout t i) s = .next
      { ((s.tick t).setChan e.channel
          ((s.chan e.channel).noted (.notice .noAnswer) j.radio g.call)).setSlot i
          { changed := true, body := .held { g with join := none } } with
        table := s.table.map fun x : RegEntry => if x.radio = j.radio then { x with pinned := none } else x }.finish)
  ∧ ∀ t r e (s : State), s.entry r = some e →
    (e.pinned = none → e.lastHeard + 1000 * s.device.regExpiry ≤ max s.now t →
      exec (.registrationExpiry t r) s = .next { s.tick t with table := s.table.filter fun x : RegEntry => x.radio != r }.finish)
    ∧ (e.pinned.isSome = true → exec (.registrationExpiry t r) s = .next (s.tick t).finish)

/-- R10, R38, R39: a LEAVE of a crew member that holds no floor, outside a move, returns it to the table; a HAND to a
crew member above the warn threshold exchanges the roles. -/
def Obligations.LeaveAndHand : Prop :=
  ∀ t c f i (g g1 : Machine.Group) (s : State), ((s.tick t).presence i f.sender).group i = some g1 →
    (FromMember s c f i .crew g → g1.state ≠ .opening → g1.move = none → s.table.length < 96 →
      (∀ d h, (s.chan d).talk = some h → h.radio ≠ f.sender) →
      ∃ (u : State) (g' : Machine.Group), exec (.leave t c f) s = .next u.finish ∧ u.group i = some g'
        ∧ g'.crew.map (·.radio) = (g1.crew.map (·.radio)).erase f.sender
        ∧ g'.notices = pushNotice g1.notices { notice := .memberLeft f.sender, dest := .leader }
        ∧ g'.state = g1.state ∧ g'.loco = g1.loco ∧ g'.leader = g1.leader ∧ g'.causes = g1.causes
        ∧ (u.slot i).changed = true ∧ (∀ j, j ≠ i → u.slot j = s.slot j)
        ∧ u.table = s.table ++ [{ radio := f.sender, kind := .handset, channel := g1.channel, level := 0,
                                  lastHeard := max s.now t, pinned := none }]
        ∧ u.chans = s.chans)
    ∧ ∀ m, FromMember s c f i .leader g → g1.crew.find? (fun x => x.radio == f.named) = some m → s.WarnSound →
      s.device.warn < 7 → s.device.warn < m.level → g1.state = .active ∨ g1.state = .halt →
      ∃ (u : State) (g' : Machine.Group), exec (.hand t c f) s = .next u.finish ∧ u.group i = some g' ∧ g'.leader = m
        ∧ g'.crew.map (·.radio) = (g1.crew.map (·.radio)).erase f.named ++ [g1.leader.radio]
        ∧ g'.notices = pushNotice g1.notices { notice := .leaderNow, dest := .radio f.named }
        ∧ g'.state = g1.state ∧ g'.loco = g1.loco ∧ g'.causes = g1.causes
        ∧ (u.slot i).changed = true ∧ (∀ j, j ≠ i → u.slot j = s.slot j)
        ∧ u.table = s.table ∧ u.chans = s.chans

/-- R59, R89, R90: a RESUME with an empty set takes a group with no ATTACH wait and no move record to ACTIVE or DEGRADED
and its pending HALT request becomes a BEAT; with a cause present it is answered CAUSES PRESENT. -/
def Obligations.ResumeFromHalt : Prop :=
  ∀ t c f i (g g1 : Machine.Group) (s : State), FromMember s c f i .leader g →
  ((s.tick t).presence i f.sender).group i = some g1 →
    g1.state = .halt →
    (g1.causes = {} → g1.wait = none → g1.move = none →
      ∃ u : State, exec (.resume t c f) s = .next u.finish
        ∧ u.slot i = { changed := true, body := .held { g1 with
            state := if g1.warned s.device.warn then .degraded else .active
            notices := pushNotice g1.notices
              { notice := .resumed (if g1.warned s.device.warn then .degraded else .active), dest := .leader } } }
        ∧ (∀ j, j ≠ i → u.slot j = s.slot j) ∧ u.table = s.table
        ∧ u.isPending g1.channel (.phase g1.phase) .halt = false
        ∧ (s.isPending g1.channel (.phase g1.phase) .halt = true →
            u.isPending g1.channel (.phase g1.phase) .beat = true))
    ∧ (g1.causes ≠ {} →
      exec (.resume t c f) s = .next (((s.tick t).presence i f.sender).setSlot i
        { changed := (((s.tick t).presence i f.sender).slot i).changed,
          body := .held (g1.told (.causesPresent g1.causes)) }).finish)

/-! ### Modem reports -/

/-- R58, R61, R63, R125, R127: TX DONE for a beat of a group in ACTIVE, DEGRADED or HALT with no open window and no
STARVED: the dropped-beat count is 0, the rotation advances, and a window opens for the target. The frame's `awaited`
mark is the model's (notes/assumptions/9.md). -/
def Obligations.BeatSent : Prop :=
  ∀ t c p i (g : Machine.Group) target pos k (s : State), k = .beat ∨ k = .halt →
    (s.chan c).inFlight = some
      { source := .phase p, kind := k, owner := some i, awaited := true, address := .group g.call, call := g.call,
        content := if k = .beat then .beat target pos else .halt target pos g.causes } →
    s.group i = some g → g.state = .active ∨ g.state = .degraded ∨ g.state = .halt → g.window = none →
    g.causes.starved = false → (g.roleOf target).isSome = true → pos ≠ 2 →
    exec (.txDone t c) s = .next (((s.tick t).setChan c
      { s.chan c with
        inFlight := none
        lastTxEnd := if (s.chan c).talk.isNone then some (max s.now t) else (s.chan c).lastTxEnd }).setSlot i
      { changed := (s.slot i).changed,
        body := .held { g with
          dropped := 0
          position := (g.position + 1) % 3
          window := some { target := target, expiry := max s.now t + (s.chan c).config.answerWindow } } }).finish

/-- R104, R127: TX REFUSED for a RELAY that is the order in flight on the air raises the RELAY again; the order stays
PENDING. The frame's `awaited` mark is the model's (notes/assumptions/9.md). -/
def Obligations.RelayRefused : Prop :=
  ∀ t c p i (g : Machine.Group) o (s : State),
    (s.chan c).inFlight = some
      { source := .phase p, kind := .relay, owner := some i, awaited := true, address := .radio g.loco.radio,
        call := g.call, content := .relay o } →
    s.group i = some g → g.channel = c → g.phase = p → g.order = some { order := o, expiry := none } →
    s.isPending c (.phase p) .relay = false →
    exec (.txRefused t c) s = .next ((s.tick t).setChan c
      { s.chan c with
        inFlight := none
        lastTxEnd := if (s.chan c).talk.isNone then some (max s.now t) else (s.chan c).lastTxEnd
        reqs := reqsRaise { source := .phase p, kind := .relay, body := .plain } (s.chan c).reqs }).finish

/-- R126, R131: a READY line is held READY, and the arbiter has handed over a request or has none eligible; NOT READY
holds the line NOT READY and changes nothing else. -/
def Obligations.LineReadiness : Prop :=
  ∀ t c (s : State), s.Quiet →
    (∃ u : State, exec (.ready t c) s = .next u ∧ (u.chan c).ready = true
      ∧ ((u.chan c).inFlight = none → ∀ r ∈ u.pendingSet c, (u.chan c).eligible r = false))
    ∧ exec (.notReady t c) s = .next ((s.tick t).setChan c { s.chan c with ready := false }).finish

/-- R162, R164 to R166, R170: the sampling moment of a free phase, the deadline with a transmission in progress, and a
CLEAR LEVEL report, in a survey cycle before the last; in the last cycle the report forms the survey's result; a LEVEL report
for another sample than the outstanding one is ignored. That a report is told from a late one by the instant of its request
is the model's choice (notes/assumptions/30.md). -/
def Obligations.SampleTaken : Prop :=
  (∀ t c (s : State), (s.chan c).survey.cycle < 7 →
    (∀ x d, (s.chan c).survey.sample = .waiting x d → (s.chan c).inFlight = none → (s.chan c).talk = none →
        (s.chan c).samplingMoment x ≤ d → (s.chan c).samplingMoment x ≤ max s.now t →
      exec (.samplingMoment t c) s = .next ((s.tick t).setChan c
        { s.chan c with
          survey := { (s.chan c).survey with
            sample := if (s.chan c).ready = true then .outstanding (s.chan c).survey.cycle (max s.now t) else .none } }).finish)
    ∧ (∀ x d, (s.chan c).survey.sample = .waiting x d → d ≤ max s.now t →
        (s.chan c).inFlight.isSome = true ∨ (s.chan c).talk.isSome = true →
      exec (.sampleDeadline t c) s = .next ((s.tick t).setChan c
        { s.chan c with survey := { (s.chan c).survey with sample := .none } }).finish)
    ∧ ∀ p x l, (s.chan c).survey.sample = .outstanding p x →
      exec (.levelReport t c l ⟨.clear, x⟩) s = .next ((s.tick t).setChan c
        { s.chan c with
          survey := { (s.chan c).survey with
            sample := .none
            count := (s.chan c).survey.count + 1
            runMax := match (s.chan c).survey.runMax with
              | none => some { level := min l 63, phase := p }
              | some m => if m.level < min l 63 then some { level := min l 63, phase := p } else some m } }).finish)
  ∧ (∀ t c p x l m (s : State), (s.chan c).survey.state = .running → (s.chan c).survey.cycle = 7 →
    (s.chan c).survey.sample = .outstanding p x →
    ((s.chan c).survey.runMax = none ∧ m = { level := min l 63, phase := p })
      ∨ (∃ m₀, (s.chan c).survey.runMax = some m₀
          ∧ m = if m₀.level < min l 63 then { level := min l 63, phase := p } else m₀) →
    ∃ u : State, exec (.levelReport t c l ⟨.clear, x⟩) s = .next u.finish
      ∧ ResultFormed s u c .armed (.level m.level m.phase ((s.chan c).survey.count + 1)))
  ∧ ∀ t c l k x (s : State), s.Quiet → (∀ p, (s.chan c).survey.sample ≠ .outstanding p x) →
    exec (.levelReport t c l ⟨k, x⟩) s = .next (s.tick t)

/-! ### Instants and timers -/

/-- R54, R56, R57: at its phase instant an ACTIVE or DEGRADED group raises its BEAT; a beat still pending is replaced
and counts as dropped (below the fourth). The survey is not running. `reached`, which keeps an instant from being taken
twice, is the model's (notes/assumptions/24.md). -/
def Obligations.BeatRaised : Prop :=
  ∀ t c p i (g : Machine.Group) (s : State), s.ChannelsSound → (s.chan c).mode = .live → (s.chan c).reached ≤ p.val →
    (s.chan c).cycleStart + p.val * (s.chan c).period / 8 ≤ max s.now t → (s.chan c).occupancy.get p = some i →
    s.group i = some g → g.channel = c → g.phase = p → g.state = .active ∨ g.state = .degraded →
    s.isPending c (.phase p) .halt = false → (s.chan c).survey.state ≠ .running → g.dropped < 3 →
    exec (.phaseInstant t c p) s = .next (((s.tick t).setChan c
      { s.chan c with
        reached := p.val + 1
        reqs := reqsRaise { source := .phase p, kind := .beat, body := .plain } (s.chan c).reqs }).setSlot i
      { changed := (s.slot i).changed,
        body := .held { g with
          dropped := if s.isPending c (.phase p) .beat then g.dropped + 1 else g.dropped } }).finish

/-- R53, R163, R166 to R168, R170: a cycle start of a LIVE channel. The next cycle begins where this one ends, and a pending
period becomes current. An ARMED survey begins its cycle 0, a RUNNING one goes on to its next cycle, and at the end of its
cycle 7 forms its result; a period that takes effect restarts a survey that is on, or puts it in ERROR. Where the two fall
together the operand `b` says which is taken first (notes/assumptions/19.md). -/
def Obligations.CycleBegins : Prop :=
  ∀ t c b (s : State), (s.chan c).mode = .live → (s.chan c).cycleStart + (s.chan c).period ≤ max s.now t →
    ((s.chan c).survey.state = .off →
      exec (.cycleStart t c b) s = .next ((s.tick t).setChan c
        { s.chan c with
          cycleStart := (s.chan c).cycleStart + (s.chan c).period
          reached := 0
          period := (s.chan c).pendingPeriod.getD (s.chan c).period
          pendingPeriod := none }).finish)
    ∧ ((s.chan c).pendingPeriod = none →
      ((s.chan c).survey.state = .armed →
        exec (.cycleStart t c b) s = .next ((s.tick t).setChan c
          { s.chan c with
            cycleStart := (s.chan c).cycleStart + (s.chan c).period
            reached := 0
            survey := { (s.chan c).survey with
              state := .running, cycle := 0, runMax := none, count := 0, sample := .none } }).finish)
      ∧ ((s.chan c).survey.state = .running → (s.chan c).survey.cycle < 7 →
        exec (.cycleStart t c b) s = .next ((s.tick t).setChan c
          { s.chan c with
            cycleStart := (s.chan c).cycleStart + (s.chan c).period
            reached := 0
            survey := { (s.chan c).survey with sample := .none, cycle := (s.chan c).survey.cycle + 1 } }).finish)
      ∧ ∀ r, (s.chan c).survey.state = .running → (s.chan c).survey.cycle = 7 →
        ((s.chan c).survey.runMax = none ∧ r = .noSample)
          ∨ (∃ m, (s.chan c).survey.runMax = some m ∧ r = .level m.level m.phase (s.chan c).survey.count) →
        ∃ u : State, exec (.cycleStart t c b) s = .next u.finish ∧ ResultFormed s u c .running r
          ∧ (u.chan c).cycleStart = (s.chan c).cycleStart + (s.chan c).period ∧ (u.chan c).period = (s.chan c).period)
    ∧ ∀ p, (s.chan c).pendingPeriod = some p → (s.chan c).survey.state ≠ .off →
      (b = true ∨ (s.chan c).survey.state ≠ .running ∨ (s.chan c).survey.cycle < 7 →
      exec (.cycleStart t c b) s = .next
        { (s.tick t).setChan c
            { s.chan c with
              cycleStart := (s.chan c).cycleStart + (s.chan c).period
              reached := 0
              period := p
              pendingPeriod := none
              survey := { (s.chan c).survey with
                state := if p / 8 < (s.chan c).config.blank + 10 then .error else .running
                error := decide (p / 8 < (s.chan c).config.blank + 10)
                cycle := 0, runMax := none, count := 0, sample := .none } } with
          attention :=
            if p / 8 < (s.chan c).config.blank + 10 then attnAdd (.surveyError c) s.attention else s.attention }.finish)
      ∧ ∀ r, b = false → (s.chan c).survey.state = .running → (s.chan c).survey.cycle = 7 →
        ((s.chan c).survey.runMax = none ∧ r = .noSample)
          ∨ (∃ m, (s.chan c).survey.runMax = some m ∧ r = .level m.level m.phase (s.chan c).survey.count) →
        ∃ u : State, exec (.cycleStart t c b) s = .next u.finish
          ∧ (u.chan c).survey =
            { state := if p / 8 < (s.chan c).config.blank + 10 then .error else .running
              error := decide (p / 8 < (s.chan c).config.blank + 10)
              cycle := 0, runMax := none, count := 0, sample := .none, last := r, jammed := (s.chan c).jamAfter r }
          ∧ (u.chan c).cycleStart = (s.chan c).cycleStart + (s.chan c).period ∧ (u.chan c).period = p
          ∧ (u.chan c).pendingPeriod = none

/-- R65, R68, R73 to R75: the expiry of an open window. An exempt miss closes the window and leaves the levels. A miss that
counts and leaves the target above the warn threshold lowers its level by 1. At the last level LOCO_LINK or LEADER_LINK halts
a DEGRADED group; a crew member stays at level 0 on a JAMMED channel and is lost on any other. -/
def Obligations.MissedPoll : Prop :=
  ∀ t i (g : Machine.Group) w role (s : State), s.group i = some g → g.window = some w → w.expiry ≤ max s.now t →
  g.roleOf w.target = some role →
    (¬ s.Counts g w.target role →
      exec (.answerWindowExpiry t i) s = .next ((s.tick t).setSlot i
        { changed := (s.slot i).changed, body := .held { g with window := none } }).finish)
    ∧ (s.Counts g w.target role →
      (∀ n, s.WarnSound → s.device.warn < n →
        (role = .loco → g.loco.level = n + 1 →
          exec (.answerWindowExpiry t i) s = .next ((s.tick t).setSlot i
            { changed := (s.slot i).changed,
              body := .held { g with window := none, loco := { g.loco with level := n } } }).finish)
        ∧ (role = .leader → g.leader.level = n + 1 →
          exec (.answerWindowExpiry t i) s = .next ((s.tick t).setSlot i
            { changed := (s.slot i).changed,
              body := .held { g with window := none, leader := { g.leader with level := n } } }).finish)
        ∧ (role = .crew → g.levelOf w.target .crew = n + 1 →
          exec (.answerWindowExpiry t i) s = .next ((s.tick t).setSlot i
            { changed := (s.slot i).changed,
              body := .held { g with
                window := none
                crew := g.crew.map fun m => if m.radio = w.target then { m with level := n } else m } }).finish))
      ∧ (g.state = .degraded → g.causes = {} →
        (role = .loco → g.loco.level = 1 →
          ∃ u : State, exec (.answerWindowExpiry t i) s = .next u.finish ∧ Halted u i (Causes.single .locoLink)
            ∧ ∃ g' : Machine.Group, u.group i = some g' ∧ g'.loco.level = 0 ∧ g'.window = none)
        ∧ (role = .leader → g.leader.level = 1 →
          ∃ u : State, exec (.answerWindowExpiry t i) s = .next u.finish ∧ Halted u i (Causes.single .leaderLink)
            ∧ ∃ g' : Machine.Group, u.group i = some g' ∧ g'.leader.level = 0 ∧ g'.window = none))
      ∧ (role = .crew → g.levelOf w.target .crew = 1 → s.WarnSound → 1 ≤ s.device.warn →
        ((s.chan g.channel).survey.jammed = true →
          exec (.answerWindowExpiry t i) s = .next ((s.tick t).setSlot i
            { changed := (s.slot i).changed,
              body := .held { g with
                window := none
                crew := g.crew.map fun m => if m.radio = w.target then { m with level := 0 } else m } }).finish)
        ∧ ((s.chan g.channel).survey.jammed = false → g.move = none →
            (∀ d h, (s.chan d).talk = some h → h.radio ≠ w.target) →
          ∃ (u : State) (g' : Machine.Group), exec (.answerWindowExpiry t i) s = .next u.finish ∧ u.group i = some g'
            ∧ g'.crew.map (·.radio) = (g.crew.map (·.radio)).erase w.target
            ∧ g'.notices = pushNotice g.notices { notice := .memberLost w.target, dest := .leader }
            ∧ g'.state = g.state ∧ g'.loco = g.loco ∧ g'.leader = g.leader ∧ g'.causes = g.causes ∧ g'.window = none
            ∧ (u.slot i).changed = true ∧ (∀ j, j ≠ i → u.slot j = s.slot j)
            ∧ u.table = s.table ∧ u.chans = s.chans)))

/-- R156 to R158: the end of a move window with every member checked in, and with the loco alone absent. -/
def Obligations.MoveWindowEnds : Prop :=
  ∀ t i (g : Machine.Group) m (s : State), s.group i = some g → g.move = some m → m.expiry ≤ max s.now t →
    ((∀ r ∈ g.radios, r ∈ m.checked) →
      ∃ u : State, exec (.moveWindowExpiry t i) s = .next u.finish
        ∧ u.slot i = { changed := true, body := .held { g with move := none } }
        ∧ (∀ j, j ≠ i → u.slot j = s.slot j) ∧ (u.chan m.oldChan).occupancy.get m.oldPhase = none
        ∧ u.isPending m.oldChan (.phase m.oldPhase) .move = false
        ∧ u.isPending m.oldChan (.phase m.oldPhase) .halt = false)
    ∧ (g.loco.radio ∉ m.checked → g.leader.radio ∈ m.checked → (∀ x ∈ g.crew, x.radio ∈ m.checked) →
        g.state = .active ∨ g.state = .degraded → g.causes = {} → m.oldChan ≠ g.channel →
        (s.chan m.oldChan).inFlight = none →
      ∃ u : State, exec (.moveWindowExpiry t i) s = .next u.finish ∧ Halted u i (Causes.single .locoLink)
        ∧ (∃ g' : Machine.Group, u.group i = some g' ∧ g'.loco.level = 0 ∧ g'.move = none
            ∧ g'.finalHalt = some { chan := m.oldChan, phase := m.oldPhase })
        ∧ u.isPending m.oldChan (.phase m.oldPhase) .halt = true
        ∧ u.isPending m.oldChan (.phase m.oldPhase) .move = false
        ∧ (u.chan m.oldChan).occupancy.get m.oldPhase = (s.chan m.oldChan).occupancy.get m.oldPhase)

/-! ### Modes, profile, resets, area lines -/

/-- R50 to R52, R97, R172, R173, R178: both entries into FALLBACK. The settings and the pairings are reloaded from the values
being stored, else from a valid profile, else from the built-in defaults, PROFILE DEFAULTED then being set: the device
settings and every channel's settings, mode and beat period, as host writes of them would be (an OFF is refused while a phase
is held, a period is pending on a channel that is LIVE before and after). The mode, the timers, the attention item, the
examination follow; under HALT ALL every group holds CONTROL. -/
def Obligations.FallbackEntered : Prop :=
  ∀ t p (s : State), s.storing = some p
      ∨ (s.storing = none ∧ p = if s.profileValid = true then s.profile else builtinProfile) → p.InRange →
    ∀ cmd, (cmd = .startupTimerExpiry t ∧ s.mode = .startup ∧ ∃ e, s.startupExpiry = some e ∧ e ≤ max s.now t)
        ∨ (cmd = .hostSilenceExpiry t ∧ s.mode = .operate ∧ ∃ m x, s.device.silence = some m ∧ s.silenceSince = some x
            ∧ x + 250 * 2 ^ m ≤ max s.now t) →
      ∃ u : State, exec cmd s = .next u.finish ∧ u.mode = .fallback ∧ u.startupExpiry = none ∧ u.silenceSince = none
        ∧ u.device = p.device
        ∧ (∀ k, u.pairings.get k = { pairing := p.pairings.get k, held := false })
        ∧ (∀ c, (u.chan c).config = (p.channels.get c).config
          ∧ (u.chan c).mode = (if (s.chan c).mode = .live ∧ ∃ q, (s.chan c).occupancy.get q ≠ none then .live
              else (p.channels.get c).mode)
          ∧ ((s.chan c).mode = .live → (u.chan c).mode = .live → (u.chan c).period = (s.chan c).period
            ∧ (u.chan c).pendingPeriod = (if (p.channels.get c).period = (s.chan c).period then none
                else some (p.channels.get c).period))
          ∧ ((s.chan c).mode = .off ∨ (u.chan c).mode = .off →
              (u.chan c).period = (p.channels.get c).period ∧ (u.chan c).pendingPeriod = none)
          ∧ ((s.chan c).mode = .off → (u.chan c).mode = .live → (u.chan c).epoch = some (max s.now t)))
        ∧ AttnItem.fallback ∈ u.attention ∧ u.examine = true
        ∧ (s.storing = none → s.profileValid = false → AttnItem.profileDefaulted ∈ u.attention)
        ∧ (p.device.policy = .haltAll → ∀ i (g : Machine.Group), u.group i = some g → g.causes.control = true)

/-- R175, R177: a STORE copies the settings in force and clears the valid mark; its completion writes the profile, sets
the valid mark and STORE DONE. That a held pending period is the period stored is the model's reading
(notes/assumptions/15.md). -/
def Obligations.StoreWrites : Prop :=
  (∀ t n (s : State), 3 ≤ n → s.storing = none → s.mode ≠ .fallback →
    ∃ p, exec (.store t n) s
        = .next ({ s.begun t n with storing := some p, profileValid := false }.finish.answer 22 .done .none)
      ∧ p.device = s.device ∧ (∀ k, p.pairings.get k = (s.pairings.get k).pairing)
      ∧ ∀ c, (p.channels.get c).mode = (s.chan c).mode ∧ (p.channels.get c).config = (s.chan c).config
        ∧ (p.channels.get c).period = (s.chan c).pendingPeriod.getD (s.chan c).period)
  ∧ ∀ t p (s : State), s.storing = some p →
    exec (.storeCompletion t) s = .next
      { s.tick t with
        profile := p, profileValid := true, storing := none, attention := attnAdd .storeDone s.attention }.finish

/-- R20, R50, R162, R171, R172, R176, R179 to R181: the three resets, and what each keeps of the attention set. That
POWER and LINE carry the area lines' levels and RESET keeps them is the model's choice (notes/assumptions/8.md). -/
def Obligations.Resets : Prop :=
  (∀ t a b (s : State), ∃ u : State, exec (.powerReset t a b) s = .next u
    ∧ AfterReset s u (max s.now t) (if s.profileValid then s.profile else builtinProfile)
    ∧ u.areaA = a ∧ u.areaB = b ∧ u.response = none ∧ AttnItem.power ∈ u.attention
    ∧ AttnItem.line ∉ u.attention ∧ AttnItem.command ∉ u.attention
    ∧ (AttnItem.profileDefaulted ∈ u.attention ↔ s.profileValid = false))
  ∧ (∀ t a b (s : State), ∃ u : State, exec (.lineReset t a b) s = .next u
    ∧ AfterReset s u (max s.now t) (if s.profileValid then s.profile else builtinProfile)
    ∧ u.areaA = a ∧ u.areaB = b ∧ u.response = none ∧ AttnItem.line ∈ u.attention
    ∧ (AttnItem.power ∈ u.attention ↔ AttnItem.power ∈ s.attention)
    ∧ (AttnItem.profileDefaulted ∈ u.attention ↔ s.profileValid = false) ∧ AttnItem.fallback ∉ u.attention)
  ∧ ∀ t n (s : State), 3 ≤ n → s.storing = none → ∃ u : State, exec (.resetCommand t n) s = .next u
    ∧ AfterReset s u (max s.now t) (if s.profileValid then s.profile else builtinProfile)
    ∧ u.areaA = s.areaA ∧ u.areaB = s.areaB
    ∧ u.response = some { code := 3, status := .done, priorUnread := false, payload := .none, read := false }
    ∧ AttnItem.command ∈ u.attention ∧ (AttnItem.profileDefaulted ∈ u.attention ↔ s.profileValid = false)

/-- R91 to R94: an asserted line stops every group mapped to it, a released one takes AREA from them and leaves their
states; SET-AREA to an area whose line is released removes AREA where the old line is asserted. -/
def Obligations.AreaStops : Prop :=
  (∀ t l (s : State), s.GroupsSound → s.areaAsserted (areaOfLine l) = false →
    ∃ u : State, exec (.areaAsserted t l) s = .next u.finish ∧ u.areaAsserted (areaOfLine l) = true
      ∧ ∀ i (g : Machine.Group), s.group i = some g → g.area = areaOfLine l →
        ∃ g' : Machine.Group, u.group i = some g' ∧ g'.causes.area = true ∧ (g'.state = .halt ∨ g'.state = .releasing))
  ∧ (∀ t l (s : State), s.areaAsserted (areaOfLine l) = true →
    ∃ u : State, exec (.areaReleased t l) s = .next u.finish ∧ u.areaAsserted (areaOfLine l) = false ∧ u.chans = s.chans
      ∧ ∀ i (g : Machine.Group), s.group i = some g →
        u.group i = some (if g.area = areaOfLine l then { g with causes := g.causes.del .area } else g))
  ∧ ∀ t n gf (i : SlotId) (g : Machine.Group) k area (s : State), NamesGroup s gf i → 6 ≤ n → s.storing = none →
  s.mode ≠ .fallback → s.group i = some g →
    areaOf k = some area → s.areaAsserted area = false →
    exec (.setArea t n gf k) s
      = .next (((s.begun t n).setSlot i
          { changed := (s.slot i).changed || (decide (g.area ≠ area) && s.areaAsserted g.area && g.causes.area),
            body := .held { g with
              area := area
              causes := if g.area ≠ area
                ∧ s.areaAsserted g.area = true then g.causes.del .area else g.causes } }).finish.answer
          13 .done (.area i area))

/-! ### The host port -/

/-- R183, R184, R197: a filler transaction makes the held response read when it is long enough, and does nothing else; a
malformed frame is answered MALFORMED, with PRIOR UNREAD when the response it replaces is unread; so is a LOAD-CURVE
whose count does not match its values. -/
def Obligations.FillerAndMalformed : Prop :=
  (∀ t n (s : State), exec (.fillerTransaction t n) s = .next
    { s.tick t with response := s.response.map fun r => if r.length ≤ n then { r with read := true } else r })
  ∧ (∀ t n k l (s : State), k ≠ 0 → exec (.malformedFrame t n k l) s = .next
    { s.begun t n with
      response := some
        { code := k, status := .malformed, payload := .none, read := false,
          priorUnread := s.response.any fun r => !r.read && decide (n < r.length) } })
  ∧ ∀ t n f k v (s : State), k ≠ v.length →
  exec (.loadCurve t n f k v) s = .next ((s.begun t n).answer 20 .malformed .none)

/-- R172 to R174, R186: BEGIN in STARTUP and RECONNECT in FALLBACK make the mode OPERATE, stop the startup timer and
start the silence measurement; nothing else changes. -/
def Obligations.OperateEntered : Prop :=
  ∀ t n (s : State), 3 ≤ n → s.storing = none →
    (s.mode = .startup → exec (.beginOperate t n) s = .next
      ({ s.begun t n with mode := .operate, startupExpiry := none, silenceSince := some (max s.now t) }.finish.answer 1
        .done .none))
    ∧ (s.mode = .fallback → exec (.reconnect t n) s = .next
      ({ s.begun t n with mode := .operate, startupExpiry := none, silenceSince := some (max s.now t) }.finish.answer 2
        .done .none))

/-- R188, R190, R191, R198: the four reads change no record and return what stands; a call number not in use, a radio
with no entry and a position past the table are not found. -/
def Obligations.ReadsReturnRecords : Prop :=
  ∀ t n (s : State), 7 ≤ n →
    exec (.status t n) s = .next ((s.begun t n).answer 4 .done (.status (s.begun t n).statusReport))
    ∧ (s.storing = none → ∀ gf (i : SlotId), NamesGroup s gf i → exec (.readGroup t n gf) s
        = .next ((s.begun t n).answer 6 .done (.readGroup ((s.begun t n).readout i) (s.slot i).changed)))
    ∧ (s.storing = none → ∀ k, 1 ≤ k → k ≤ 99 → s.slotOfCall k = none →
        exec (.readGroup t n { selector := 1, number := k }) s
          = .next ((s.begun t n).answer 6 (.refused .notFound) .none))
    ∧ (s.storing = none → ∀ k (h : k < s.table.length), exec (.readReg t n 1 k) s
        = .next ((s.begun t n).answer 7 .done (.readReg s.table[k] k s.table.length)))
    ∧ (s.storing = none → ∀ k, s.table.length ≤ k → exec (.readReg t n 1 k) s
        = .next ((s.begun t n).answer 7 (.refused .notFound) (.entries s.table.length)))
    ∧ (s.storing = none → ∀ r, s.entry r = none → exec (.readReg t n 0 r) s
        = .next ((s.begun t n).answer 7 (.refused .notFound) (.entries s.table.length)))
    ∧ (s.storing = none → ∀ c : Chan, exec (.surveyRead t n c.val) s
        = .next ((s.begun t n).answer 8 .done (.surveyRead (s.chan c).survey.state (s.chan c).survey.last
            (s.chan c).survey.cycle (s.chan c).survey.runMax (s.chan c).survey.count)))

/-- R189: a POLL, in every mode, returns the lowest-numbered slot whose mark is set and clears that mark, or returns
NONE; while a STORE is in progress it is answered BUSY. -/
def Obligations.PollReturnsLowest : Prop :=
  ∀ t n (s : State), 3 ≤ n →
    (s.storing = none →
      (∀ i : SlotId, (s.slot i).changed = true → (∀ j, j < i → (s.slot j).changed = false) →
        exec (.poll t n) s = .next (((s.begun t n).setSlot i { changed := false, body := (s.slot i).body }).answer 5 .done
          (.poll (some ((s.begun t n).readout i)))))
      ∧ ((∀ i, (s.slot i).changed = false) →
        exec (.poll t n) s = .next ((s.begun t n).answer 5 .done (.poll none))))
    ∧ (s.storing.isSome = true → exec (.poll t n) s = .next ((s.begun t n).answer 5 .busy .none))

/-- R9, R20, R21, R24, R25, R55: an OPEN whose checks all pass, naming a channel or ANY, creates the group in the
lowest-numbered FREE slot on the channel's lowest free phase; with its area's line asserted the group enters HALT at
once. -/
def Obligations.OpenCreatesGroup : Prop :=
  ∀ t n a (c : Chan) (i : SlotId) (p : Phase) ar e₁ e₂ (s : State), s.RadiosSound → s.FloorsSound → 15 ≤ n → s.storing = none → s.mode = .operate →
    1 ≤ a.call → a.call ≤ 99 → openAreaOf a.area = some ar → a.gate ≤ 1 →
    a.channel = c.val ∨ (a.channel = 255 ∧ ∀ d, d < c → (s.chan d).mode = .off ∨ (s.chan d).survey.jammed = true
      ∨ ∀ q, (s.chan d).occupancy.get q ≠ none) →
    s.slotOfCall a.call = none → s.group i = none → (∀ j, j < i → s.group j ≠ none) →
    (s.chan c).mode = .live → (s.chan c).survey.jammed = false →
    (s.chan c).occupancy.get p = none → (∀ q, q < p → (s.chan c).occupancy.get q ≠ none) →
    a.loco ≠ a.leader → s.entry a.loco = some e₁ → s.entry a.leader = some e₂ → e₁.channel = c → e₂.channel = c →
    e₁.kind = .loco → e₂.kind = .handset → e₁.pinned = none → e₂.pinned = none →
    ∃ u : State, exec (.openGroup t n a) s = .next (u.finish.answer 9
        (if 100 ≤ a.wagon ∧ a.wagon ≤ 300 then .done else .clamped) (.opened i c p))
      ∧ (∀ j, j ≠ i → u.slot j = s.slot j)
      ∧ u.table = s.table.filter (fun x => x.radio != a.loco && x.radio != a.leader)
      ∧ (u.chan c).occupancy = (s.chan c).occupancy.set p (some i)
      ∧ u.isPending c (.phase p) .attach = true
      ∧ (s.areaAsserted (ar.getD (s.chan c).config.defaultArea) = false →
        u.slot i =
          { changed := true,
            body := .held
              { call := a.call, state := .opening, channel := c, phase := p,
                area := ar.getD (s.chan c).config.defaultArea,
                wagon := max 100 (min a.wagon 300), gate := decide (a.gate = 0),
                loco := { radio := a.loco, level := 7, motion := .unknown, speed := none, odometer := none },
                leader := { radio := a.leader, level := 7 }, crew := [], position := 0, pointer := none,
                window := none, dropped := 0, causes := {}, wait := some { kind := .attach, expiry := none },
                order := none, lastConfirmed := none, unconfirmed := none, approach := none, join := none,
                move := none, finalHalt := none, notices := [], pairing := none } }
        ∧ u.chans = (s.setChan c { s.chan c with
            occupancy := (s.chan c).occupancy.set p (some i)
            reqs := reqsRaise { source := .phase p, kind := .attach, body := .plain } (s.chan c).reqs }).chans)
      ∧ (s.areaAsserted (ar.getD (s.chan c).config.defaultArea) = true → Halted u i (Causes.single .area))

/-- R148 to R152: a MOVE of an ACTIVE, DEGRADED or HALT group that holds no order in flight, no talk floor and no member
at level 0, to a channel on which every check passes. -/
def Obligations.MoveStarts : Prop :=
  ∀ t n gf (c : Chan) (i : SlotId) (p : Phase) (g : Machine.Group) (s : State), NamesGroup s gf i → 6 ≤ n →
  s.storing = none → s.mode = .operate → s.group i = some g →
    g.state = .active ∨ g.state = .degraded ∨ g.state = .halt → g.wait = none → g.move = none → g.finalHalt = none →
    g.order = none → c ≠ g.channel → (s.chan c).mode = .live → (s.chan c).survey.jammed = false →
    (s.chan c).occupancy.get p = none → (∀ q, q < p → (s.chan c).occupancy.get q ≠ none) →
    (∀ h, (s.chan g.channel).talk = some h → h.radio ∉ g.radios) → (∀ m ∈ g.crew, m.level ≠ 0) →
    ∃ u : State, exec (.moveGroup t n gf c.val) s
        = .next (u.finish.answer 12 .done (.moved i c p))
      ∧ u.slot i = { changed := true, body := .held { g with
          channel := c
          phase := p
          move := some { oldChan := g.channel, oldPhase := g.phase,
                         expiry := max s.now t + 1000 * s.device.moveWindow, checked := [] } } }
      ∧ (∀ j, j ≠ i → u.slot j = s.slot j)
      ∧ (u.chan c).occupancy = (s.chan c).occupancy.set p (some i)
      ∧ (u.chan g.channel).occupancy = (s.chan g.channel).occupancy
      ∧ u.isPending g.channel (.phase g.phase) .move = true ∧ u.isPending g.channel (.phase g.phase) .beat = false
      ∧ u.isPending g.channel (.phase g.phase) .ease = false
      ∧ reqsFind (.phase g.phase) .halt (u.chan g.channel).reqs
          = (reqsFind (.phase g.phase) .halt (s.chan g.channel).reqs).map
              fun _ => { source := .phase g.phase, kind := .halt, body := .oldHalt }

/-- R76, R77, R95, R96, R193: HALT-GROUP and ALL-HALT add CONTROL, RELEASE-HALT removes it and leaves the state; the
counts are of the groups that change. -/
def Obligations.HostStops : Prop :=
  ∀ t n (s : State), 5 ≤ n → s.storing = none → s.mode ≠ .fallback → s.GroupsSound →
    (∀ gf (i : SlotId) (g : Machine.Group), NamesGroup s gf i → s.group i = some g →
      ∃ u : State, exec (.haltGroup t n gf) s = .next (u.finish.answer 14 .done (.causes i (u.finish.causesOf i)))
        ∧ ∃ g' : Machine.Group, u.group i = some g' ∧ g'.causes = g.causes.add .control
          ∧ (g'.state = .halt ∨ g'.state = .releasing))
    ∧ (∃ u : State, exec (.allHalt t n) s = .next (u.finish.answer 15 .done
          (.count (slotIds.countP fun i => (s.group i).any fun g => !g.causes.control)))
        ∧ ∀ i (g : Machine.Group), s.group i = some g →
        ∃ g' : Machine.Group, u.group i = some g' ∧ g'.causes.control = true
          ∧ (g'.state = .halt ∨ g'.state = .releasing))
    ∧ (∀ gf (i : SlotId) (g : Machine.Group), NamesGroup s gf i → s.group i = some g →
      ∃ u : State, exec (.releaseHalt t n gf) s = .next (u.finish.answer 16 .done (.causes i (u.finish.causesOf i)))
        ∧ u = (s.begun t n).setSlot i
          { changed := (s.slot i).changed || g.causes.control,
            body := .held { g with causes := g.causes.del .control } })
    ∧ ∃ u : State, exec (.releaseHalt t n { selector := 2, number := 0 }) s = .next (u.finish.answer 16 .done
          (.count (slotIds.countP fun i => (s.group i).any fun g => g.causes.control)))
        ∧ u.chans = s.chans
        ∧ ∀ i (g : Machine.Group), s.group i = some g → u.group i = some { g with causes := g.causes.del .control }

/-- R50 to R53, R130, R185, R194, R195: SET-CHANNEL of a beat period on a LIVE channel, of LIVE on an OFF channel with
its survey off, of OFF while a phase is held, of a floor; SET-DEVICE of the ease tolerance and the halt excess. The
places of a mask, the first as its least significant bit, are the model's choice (notes/assumptions/12.md). -/
def Obligations.SettingsWritten : Prop :=
  ∀ t n (c : Chan) a d (s : State), 18 ≤ n → s.storing = none → s.mode ≠ .fallback → a.channel = c.val →
    (a.mask = 256 → (s.chan c).mode = .live → 400 ≤ a.period → a.period ≤ 3200 →
      exec (.setChannel t n a) s = .next (((s.begun t n).setChan c
        { s.chan c with
          pendingPeriod :=
            if a.period - a.period % 50 = (s.chan c).period then none else some (a.period - a.period % 50) }).finish.answer 18
          (if a.period % 50 = 0 then .done else .clamped) .none))
    ∧ (a.mask = 512 → a.mode = 1 → (s.chan c).mode = .off → (s.chan c).config.survey = false →
      exec (.setChannel t n a) s = .next (((s.begun t n).setChan c
        { s.chan c with
          mode := .live, epoch := some (max s.now t), cycleStart := max s.now t,
            reached := 0 }).finish.answer 18 .done .none))
    ∧ (a.mask = 512 → a.mode = 0 → (∃ q, (s.chan c).occupancy.get q ≠ none) →
      exec (.setChannel t n a) s = .next ((s.begun t n).answer 18 (.refused .state) .none))
    ∧ (a.mask = 64 → exec (.setChannel t n a) s = .next (((s.begun t n).setChan c
        { s.chan c with config := { (s.chan c).config with floor := min a.floor 7 } }).finish.answer 18
          (if a.floor ≤ 7 then .done else .clamped) .none))
    ∧ (d.mask = 192 → d.easeTol ≤ 50 → d.easeTol < d.haltExcess → d.haltExcess ≤ 100 → d.easeTol < s.device.haltExcess →
      exec (.setDevice t n d) s = .next
        ({ s.begun t n with device := { s.device with easeTol := d.easeTol, haltExcess := d.haltExcess } }.finish.answer 19
          .done .none))

/-- R31, R123, R181, R196, R197: LOAD-CURVE writes consecutive entries, SET-PAIRING writes a pairing and releases its
hold, CLEAR-ATTENTION removes the items that its mask names and returns the set. The places of the mask are the model's
choice (notes/assumptions/12.md). -/
def Obligations.CurvePairingAttention : Prop :=
  ∀ t n (s : State), s.storing = none → s.mode ≠ .fallback →
    (∀ first v, 5 + 2 * v.length ≤ n → first + v.length ≤ 32 → (∀ x ∈ v, x ≤ 400) →
      ∃ u : State, exec (.loadCurve t n first v.length v) s = .next (u.finish.answer 20 .done .none)
        ∧ (∀ j (h : j < 32), u.device.curve[j]
            = if h' : first ≤ j ∧ j - first < v.length then v[j - first]'h'.2 else s.device.curve[j])
        ∧ u = { s.begun t n with device := { s.device with curve := u.device.curve } })
    ∧ (∀ a (k : PairingId), 13 ≤ n → a.index = k.val → 1 ≤ a.call → a.call ≤ 99 → a.channel ≤ 7 → a.area ≤ 2 →
      ∃ u : State, exec (.setPairing t n a) s = .next (u.finish.answer 21 .done .none)
        ∧ u.pairings.get k
            = { pairing := { call := a.call, loco := a.loco, leader := a.leader, channel := a.channel, area := a.area },
                held := false }
        ∧ (∀ j, j ≠ k → u.pairings.get j = s.pairings.get j)
        ∧ u = { s.begun t n with pairings := u.pairings })
    ∧ ∀ mask, 6 ≤ n →
      ∃ u : State, exec (.clearAttention t n mask) s = .next (u.finish.answer 23 .done (.attention u.finish.attention))
        ∧ u = { s.begun t n with attention := s.attention.filter fun x => !mask.testBit x.place }
end

