-- ==== Sys2Proof/Laws/State.lean ====
section
/-! SUPPORT. The fields that each named operation leaves as they are, so that no later proof unfolds an update. -/

namespace Sys2Proof.Machine.Laws

@[simp] theorem tick_mode (s : State) (t : Instant) : (s.tick t).mode = s.mode := rfl
@[simp] theorem tick_startupExpiry (s : State) (t : Instant) : (s.tick t).startupExpiry = s.startupExpiry := rfl
@[simp] theorem tick_silenceSince (s : State) (t : Instant) : (s.tick t).silenceSince = s.silenceSince := rfl
@[simp] theorem tick_attention (s : State) (t : Instant) : (s.tick t).attention = s.attention := rfl
@[simp] theorem tick_profile (s : State) (t : Instant) : (s.tick t).profile = s.profile := rfl
@[simp] theorem tick_profileValid (s : State) (t : Instant) : (s.tick t).profileValid = s.profileValid := rfl
@[simp] theorem tick_storing (s : State) (t : Instant) : (s.tick t).storing = s.storing := rfl
@[simp] theorem tick_slots (s : State) (t : Instant) : (s.tick t).slots = s.slots := rfl
@[simp] theorem tick_table (s : State) (t : Instant) : (s.tick t).table = s.table := rfl
@[simp] theorem tick_chans (s : State) (t : Instant) : (s.tick t).chans = s.chans := rfl
@[simp] theorem tick_device (s : State) (t : Instant) : (s.tick t).device = s.device := rfl
@[simp] theorem tick_pairings (s : State) (t : Instant) : (s.tick t).pairings = s.pairings := rfl
@[simp] theorem tick_areaA (s : State) (t : Instant) : (s.tick t).areaA = s.areaA := rfl
@[simp] theorem tick_areaB (s : State) (t : Instant) : (s.tick t).areaB = s.areaB := rfl
@[simp] theorem tick_response (s : State) (t : Instant) : (s.tick t).response = s.response := rfl
@[simp] theorem tick_examine (s : State) (t : Instant) : (s.tick t).examine = s.examine := rfl
@[simp] theorem tick_pending (s : State) (t : Instant) : (s.tick t).pending = s.pending := rfl

@[simp] theorem setChan_now (s : State) (c : Chan) (v : Channel) : (s.setChan c v).now = s.now := rfl
@[simp] theorem setChan_mode (s : State) (c : Chan) (v : Channel) : (s.setChan c v).mode = s.mode := rfl
@[simp] theorem setChan_startupExpiry (s : State) (c : Chan) (v : Channel) : (s.setChan c v).startupExpiry = s.startupExpiry := rfl
@[simp] theorem setChan_silenceSince (s : State) (c : Chan) (v : Channel) : (s.setChan c v).silenceSince = s.silenceSince := rfl
@[simp] theorem setChan_attention (s : State) (c : Chan) (v : Channel) : (s.setChan c v).attention = s.attention := rfl
@[simp] theorem setChan_profile (s : State) (c : Chan) (v : Channel) : (s.setChan c v).profile = s.profile := rfl
@[simp] theorem setChan_profileValid (s : State) (c : Chan) (v : Channel) : (s.setChan c v).profileValid = s.profileValid := rfl
@[simp] theorem setChan_storing (s : State) (c : Chan) (v : Channel) : (s.setChan c v).storing = s.storing := rfl
@[simp] theorem setChan_slots (s : State) (c : Chan) (v : Channel) : (s.setChan c v).slots = s.slots := rfl
@[simp] theorem setChan_table (s : State) (c : Chan) (v : Channel) : (s.setChan c v).table = s.table := rfl
@[simp] theorem setChan_device (s : State) (c : Chan) (v : Channel) : (s.setChan c v).device = s.device := rfl
@[simp] theorem setChan_pairings (s : State) (c : Chan) (v : Channel) : (s.setChan c v).pairings = s.pairings := rfl
@[simp] theorem setChan_areaA (s : State) (c : Chan) (v : Channel) : (s.setChan c v).areaA = s.areaA := rfl
@[simp] theorem setChan_areaB (s : State) (c : Chan) (v : Channel) : (s.setChan c v).areaB = s.areaB := rfl
@[simp] theorem setChan_response (s : State) (c : Chan) (v : Channel) : (s.setChan c v).response = s.response := rfl
@[simp] theorem setChan_examine (s : State) (c : Chan) (v : Channel) : (s.setChan c v).examine = s.examine := rfl
@[simp] theorem setChan_pending (s : State) (c : Chan) (v : Channel) : (s.setChan c v).pending = s.pending := rfl

@[simp] theorem modChan_now (s : State) (c : Chan) (f : Channel → Channel) : (s.modChan c f).now = s.now := rfl
@[simp] theorem modChan_mode (s : State) (c : Chan) (f : Channel → Channel) : (s.modChan c f).mode = s.mode := rfl
@[simp] theorem modChan_startupExpiry (s : State) (c : Chan) (f : Channel → Channel) : (s.modChan c f).startupExpiry = s.startupExpiry := rfl
@[simp] theorem modChan_silenceSince (s : State) (c : Chan) (f : Channel → Channel) : (s.modChan c f).silenceSince = s.silenceSince := rfl
@[simp] theorem modChan_attention (s : State) (c : Chan) (f : Channel → Channel) : (s.modChan c f).attention = s.attention := rfl
@[simp] theorem modChan_profile (s : State) (c : Chan) (f : Channel → Channel) : (s.modChan c f).profile = s.profile := rfl
@[simp] theorem modChan_profileValid (s : State) (c : Chan) (f : Channel → Channel) : (s.modChan c f).profileValid = s.profileValid := rfl
@[simp] theorem modChan_storing (s : State) (c : Chan) (f : Channel → Channel) : (s.modChan c f).storing = s.storing := rfl
@[simp] theorem modChan_slots (s : State) (c : Chan) (f : Channel → Channel) : (s.modChan c f).slots = s.slots := rfl
@[simp] theorem modChan_table (s : State) (c : Chan) (f : Channel → Channel) : (s.modChan c f).table = s.table := rfl
@[simp] theorem modChan_device (s : State) (c : Chan) (f : Channel → Channel) : (s.modChan c f).device = s.device := rfl
@[simp] theorem modChan_pairings (s : State) (c : Chan) (f : Channel → Channel) : (s.modChan c f).pairings = s.pairings := rfl
@[simp] theorem modChan_areaA (s : State) (c : Chan) (f : Channel → Channel) : (s.modChan c f).areaA = s.areaA := rfl
@[simp] theorem modChan_areaB (s : State) (c : Chan) (f : Channel → Channel) : (s.modChan c f).areaB = s.areaB := rfl
@[simp] theorem modChan_response (s : State) (c : Chan) (f : Channel → Channel) : (s.modChan c f).response = s.response := rfl
@[simp] theorem modChan_examine (s : State) (c : Chan) (f : Channel → Channel) : (s.modChan c f).examine = s.examine := rfl
@[simp] theorem modChan_pending (s : State) (c : Chan) (f : Channel → Channel) : (s.modChan c f).pending = s.pending := rfl

@[simp] theorem setSlot_now (s : State) (i : SlotId) (v : Slot) : (s.setSlot i v).now = s.now := rfl
@[simp] theorem setSlot_mode (s : State) (i : SlotId) (v : Slot) : (s.setSlot i v).mode = s.mode := rfl
@[simp] theorem setSlot_startupExpiry (s : State) (i : SlotId) (v : Slot) : (s.setSlot i v).startupExpiry = s.startupExpiry := rfl
@[simp] theorem setSlot_silenceSince (s : State) (i : SlotId) (v : Slot) : (s.setSlot i v).silenceSince = s.silenceSince := rfl
@[simp] theorem setSlot_attention (s : State) (i : SlotId) (v : Slot) : (s.setSlot i v).attention = s.attention := rfl
@[simp] theorem setSlot_profile (s : State) (i : SlotId) (v : Slot) : (s.setSlot i v).profile = s.profile := rfl
@[simp] theorem setSlot_profileValid (s : State) (i : SlotId) (v : Slot) : (s.setSlot i v).profileValid = s.profileValid := rfl
@[simp] theorem setSlot_storing (s : State) (i : SlotId) (v : Slot) : (s.setSlot i v).storing = s.storing := rfl
@[simp] theorem setSlot_table (s : State) (i : SlotId) (v : Slot) : (s.setSlot i v).table = s.table := rfl
@[simp] theorem setSlot_chans (s : State) (i : SlotId) (v : Slot) : (s.setSlot i v).chans = s.chans := rfl
@[simp] theorem setSlot_device (s : State) (i : SlotId) (v : Slot) : (s.setSlot i v).device = s.device := rfl
@[simp] theorem setSlot_pairings (s : State) (i : SlotId) (v : Slot) : (s.setSlot i v).pairings = s.pairings := rfl
@[simp] theorem setSlot_areaA (s : State) (i : SlotId) (v : Slot) : (s.setSlot i v).areaA = s.areaA := rfl
@[simp] theorem setSlot_areaB (s : State) (i : SlotId) (v : Slot) : (s.setSlot i v).areaB = s.areaB := rfl
@[simp] theorem setSlot_response (s : State) (i : SlotId) (v : Slot) : (s.setSlot i v).response = s.response := rfl
@[simp] theorem setSlot_examine (s : State) (i : SlotId) (v : Slot) : (s.setSlot i v).examine = s.examine := rfl
@[simp] theorem setSlot_pending (s : State) (i : SlotId) (v : Slot) : (s.setSlot i v).pending = s.pending := rfl

@[simp] theorem mark_now (s : State) (i : SlotId) : (s.mark i).now = s.now := rfl
@[simp] theorem mark_mode (s : State) (i : SlotId) : (s.mark i).mode = s.mode := rfl
@[simp] theorem mark_startupExpiry (s : State) (i : SlotId) : (s.mark i).startupExpiry = s.startupExpiry := rfl
@[simp] theorem mark_silenceSince (s : State) (i : SlotId) : (s.mark i).silenceSince = s.silenceSince := rfl
@[simp] theorem mark_attention (s : State) (i : SlotId) : (s.mark i).attention = s.attention := rfl
@[simp] theorem mark_profile (s : State) (i : SlotId) : (s.mark i).profile = s.profile := rfl
@[simp] theorem mark_profileValid (s : State) (i : SlotId) : (s.mark i).profileValid = s.profileValid := rfl
@[simp] theorem mark_storing (s : State) (i : SlotId) : (s.mark i).storing = s.storing := rfl
@[simp] theorem mark_table (s : State) (i : SlotId) : (s.mark i).table = s.table := rfl
@[simp] theorem mark_chans (s : State) (i : SlotId) : (s.mark i).chans = s.chans := rfl
@[simp] theorem mark_device (s : State) (i : SlotId) : (s.mark i).device = s.device := rfl
@[simp] theorem mark_pairings (s : State) (i : SlotId) : (s.mark i).pairings = s.pairings := rfl
@[simp] theorem mark_areaA (s : State) (i : SlotId) : (s.mark i).areaA = s.areaA := rfl
@[simp] theorem mark_areaB (s : State) (i : SlotId) : (s.mark i).areaB = s.areaB := rfl
@[simp] theorem mark_response (s : State) (i : SlotId) : (s.mark i).response = s.response := rfl
@[simp] theorem mark_examine (s : State) (i : SlotId) : (s.mark i).examine = s.examine := rfl
@[simp] theorem mark_pending (s : State) (i : SlotId) : (s.mark i).pending = s.pending := rfl

@[simp] theorem modGroup_now (s : State) (i : SlotId) (f : Group → Group) : (s.modGroup i f).now = s.now := by unfold State.modGroup; split <;> rfl
@[simp] theorem modGroup_mode (s : State) (i : SlotId) (f : Group → Group) : (s.modGroup i f).mode = s.mode := by unfold State.modGroup; split <;> rfl
@[simp] theorem modGroup_startupExpiry (s : State) (i : SlotId) (f : Group → Group) : (s.modGroup i f).startupExpiry = s.startupExpiry := by unfold State.modGroup; split <;> rfl
@[simp] theorem modGroup_silenceSince (s : State) (i : SlotId) (f : Group → Group) : (s.modGroup i f).silenceSince = s.silenceSince := by unfold State.modGroup; split <;> rfl
@[simp] theorem modGroup_attention (s : State) (i : SlotId) (f : Group → Group) : (s.modGroup i f).attention = s.attention := by unfold State.modGroup; split <;> rfl
@[simp] theorem modGroup_profile (s : State) (i : SlotId) (f : Group → Group) : (s.modGroup i f).profile = s.profile := by unfold State.modGroup; split <;> rfl
@[simp] theorem modGroup_profileValid (s : State) (i : SlotId) (f : Group → Group) : (s.modGroup i f).profileValid = s.profileValid := by unfold State.modGroup; split <;> rfl
@[simp] theorem modGroup_storing (s : State) (i : SlotId) (f : Group → Group) : (s.modGroup i f).storing = s.storing := by unfold State.modGroup; split <;> rfl
@[simp] theorem modGroup_table (s : State) (i : SlotId) (f : Group → Group) : (s.modGroup i f).table = s.table := by unfold State.modGroup; split <;> rfl
@[simp] theorem modGroup_chans (s : State) (i : SlotId) (f : Group → Group) : (s.modGroup i f).chans = s.chans := by unfold State.modGroup; split <;> rfl
@[simp] theorem modGroup_device (s : State) (i : SlotId) (f : Group → Group) : (s.modGroup i f).device = s.device := by unfold State.modGroup; split <;> rfl
@[simp] theorem modGroup_pairings (s : State) (i : SlotId) (f : Group → Group) : (s.modGroup i f).pairings = s.pairings := by unfold State.modGroup; split <;> rfl
@[simp] theorem modGroup_areaA (s : State) (i : SlotId) (f : Group → Group) : (s.modGroup i f).areaA = s.areaA := by unfold State.modGroup; split <;> rfl
@[simp] theorem modGroup_areaB (s : State) (i : SlotId) (f : Group → Group) : (s.modGroup i f).areaB = s.areaB := by unfold State.modGroup; split <;> rfl
@[simp] theorem modGroup_response (s : State) (i : SlotId) (f : Group → Group) : (s.modGroup i f).response = s.response := by unfold State.modGroup; split <;> rfl
@[simp] theorem modGroup_examine (s : State) (i : SlotId) (f : Group → Group) : (s.modGroup i f).examine = s.examine := by unfold State.modGroup; split <;> rfl
@[simp] theorem modGroup_pending (s : State) (i : SlotId) (f : Group → Group) : (s.modGroup i f).pending = s.pending := by unfold State.modGroup; split <;> rfl

@[simp] theorem attend_now (s : State) (x : AttnItem) : (s.attend x).now = s.now := rfl
@[simp] theorem attend_mode (s : State) (x : AttnItem) : (s.attend x).mode = s.mode := rfl
@[simp] theorem attend_startupExpiry (s : State) (x : AttnItem) : (s.attend x).startupExpiry = s.startupExpiry := rfl
@[simp] theorem attend_silenceSince (s : State) (x : AttnItem) : (s.attend x).silenceSince = s.silenceSince := rfl
@[simp] theorem attend_profile (s : State) (x : AttnItem) : (s.attend x).profile = s.profile := rfl
@[simp] theorem attend_profileValid (s : State) (x : AttnItem) : (s.attend x).profileValid = s.profileValid := rfl
@[simp] theorem attend_storing (s : State) (x : AttnItem) : (s.attend x).storing = s.storing := rfl
@[simp] theorem attend_slots (s : State) (x : AttnItem) : (s.attend x).slots = s.slots := rfl
@[simp] theorem attend_table (s : State) (x : AttnItem) : (s.attend x).table = s.table := rfl
@[simp] theorem attend_chans (s : State) (x : AttnItem) : (s.attend x).chans = s.chans := rfl
@[simp] theorem attend_device (s : State) (x : AttnItem) : (s.attend x).device = s.device := rfl
@[simp] theorem attend_pairings (s : State) (x : AttnItem) : (s.attend x).pairings = s.pairings := rfl
@[simp] theorem attend_areaA (s : State) (x : AttnItem) : (s.attend x).areaA = s.areaA := rfl
@[simp] theorem attend_areaB (s : State) (x : AttnItem) : (s.attend x).areaB = s.areaB := rfl
@[simp] theorem attend_response (s : State) (x : AttnItem) : (s.attend x).response = s.response := rfl
@[simp] theorem attend_examine (s : State) (x : AttnItem) : (s.attend x).examine = s.examine := rfl
@[simp] theorem attend_pending (s : State) (x : AttnItem) : (s.attend x).pending = s.pending := rfl

@[simp] theorem raise_now (s : State) (c : Chan) (src : Source) (k : ReqKind) (b : ReqBody) : (s.raise c src k b).now = s.now := rfl
@[simp] theorem raise_mode (s : State) (c : Chan) (src : Source) (k : ReqKind) (b : ReqBody) : (s.raise c src k b).mode = s.mode := rfl
@[simp] theorem raise_startupExpiry (s : State) (c : Chan) (src : Source) (k : ReqKind) (b : ReqBody) : (s.raise c src k b).startupExpiry = s.startupExpiry := rfl
@[simp] theorem raise_silenceSince (s : State) (c : Chan) (src : Source) (k : ReqKind) (b : ReqBody) : (s.raise c src k b).silenceSince = s.silenceSince := rfl
@[simp] theorem raise_attention (s : State) (c : Chan) (src : Source) (k : ReqKind) (b : ReqBody) : (s.raise c src k b).attention = s.attention := rfl
@[simp] theorem raise_profile (s : State) (c : Chan) (src : Source) (k : ReqKind) (b : ReqBody) : (s.raise c src k b).profile = s.profile := rfl
@[simp] theorem raise_profileValid (s : State) (c : Chan) (src : Source) (k : ReqKind) (b : ReqBody) : (s.raise c src k b).profileValid = s.profileValid := rfl
@[simp] theorem raise_storing (s : State) (c : Chan) (src : Source) (k : ReqKind) (b : ReqBody) : (s.raise c src k b).storing = s.storing := rfl
@[simp] theorem raise_slots (s : State) (c : Chan) (src : Source) (k : ReqKind) (b : ReqBody) : (s.raise c src k b).slots = s.slots := rfl
@[simp] theorem raise_table (s : State) (c : Chan) (src : Source) (k : ReqKind) (b : ReqBody) : (s.raise c src k b).table = s.table := rfl
@[simp] theorem raise_device (s : State) (c : Chan) (src : Source) (k : ReqKind) (b : ReqBody) : (s.raise c src k b).device = s.device := rfl
@[simp] theorem raise_pairings (s : State) (c : Chan) (src : Source) (k : ReqKind) (b : ReqBody) : (s.raise c src k b).pairings = s.pairings := rfl
@[simp] theorem raise_areaA (s : State) (c : Chan) (src : Source) (k : ReqKind) (b : ReqBody) : (s.raise c src k b).areaA = s.areaA := rfl
@[simp] theorem raise_areaB (s : State) (c : Chan) (src : Source) (k : ReqKind) (b : ReqBody) : (s.raise c src k b).areaB = s.areaB := rfl
@[simp] theorem raise_response (s : State) (c : Chan) (src : Source) (k : ReqKind) (b : ReqBody) : (s.raise c src k b).response = s.response := rfl
@[simp] theorem raise_examine (s : State) (c : Chan) (src : Source) (k : ReqKind) (b : ReqBody) : (s.raise c src k b).examine = s.examine := rfl
@[simp] theorem raise_pending (s : State) (c : Chan) (src : Source) (k : ReqKind) (b : ReqBody) : (s.raise c src k b).pending = s.pending := rfl

@[simp] theorem withdraw_now (s : State) (c : Chan) (src : Source) (k : ReqKind) : (s.withdraw c src k).now = s.now := rfl
@[simp] theorem withdraw_mode (s : State) (c : Chan) (src : Source) (k : ReqKind) : (s.withdraw c src k).mode = s.mode := rfl
@[simp] theorem withdraw_startupExpiry (s : State) (c : Chan) (src : Source) (k : ReqKind) : (s.withdraw c src k).startupExpiry = s.startupExpiry := rfl
@[simp] theorem withdraw_silenceSince (s : State) (c : Chan) (src : Source) (k : ReqKind) : (s.withdraw c src k).silenceSince = s.silenceSince := rfl
@[simp] theorem withdraw_attention (s : State) (c : Chan) (src : Source) (k : ReqKind) : (s.withdraw c src k).attention = s.attention := rfl
@[simp] theorem withdraw_profile (s : State) (c : Chan) (src : Source) (k : ReqKind) : (s.withdraw c src k).profile = s.profile := rfl
@[simp] theorem withdraw_profileValid (s : State) (c : Chan) (src : Source) (k : ReqKind) : (s.withdraw c src k).profileValid = s.profileValid := rfl
@[simp] theorem withdraw_storing (s : State) (c : Chan) (src : Source) (k : ReqKind) : (s.withdraw c src k).storing = s.storing := rfl
@[simp] theorem withdraw_slots (s : State) (c : Chan) (src : Source) (k : ReqKind) : (s.withdraw c src k).slots = s.slots := rfl
@[simp] theorem withdraw_table (s : State) (c : Chan) (src : Source) (k : ReqKind) : (s.withdraw c src k).table = s.table := rfl
@[simp] theorem withdraw_device (s : State) (c : Chan) (src : Source) (k : ReqKind) : (s.withdraw c src k).device = s.device := rfl
@[simp] theorem withdraw_pairings (s : State) (c : Chan) (src : Source) (k : ReqKind) : (s.withdraw c src k).pairings = s.pairings := rfl
@[simp] theorem withdraw_areaA (s : State) (c : Chan) (src : Source) (k : ReqKind) : (s.withdraw c src k).areaA = s.areaA := rfl
@[simp] theorem withdraw_areaB (s : State) (c : Chan) (src : Source) (k : ReqKind) : (s.withdraw c src k).areaB = s.areaB := rfl
@[simp] theorem withdraw_response (s : State) (c : Chan) (src : Source) (k : ReqKind) : (s.withdraw c src k).response = s.response := rfl
@[simp] theorem withdraw_examine (s : State) (c : Chan) (src : Source) (k : ReqKind) : (s.withdraw c src k).examine = s.examine := rfl
@[simp] theorem withdraw_pending (s : State) (c : Chan) (src : Source) (k : ReqKind) : (s.withdraw c src k).pending = s.pending := rfl

@[simp] theorem withdrawSource_now (s : State) (c : Chan) (src : Source) : (s.withdrawSource c src).now = s.now := rfl
@[simp] theorem withdrawSource_mode (s : State) (c : Chan) (src : Source) : (s.withdrawSource c src).mode = s.mode := rfl
@[simp] theorem withdrawSource_startupExpiry (s : State) (c : Chan) (src : Source) : (s.withdrawSource c src).startupExpiry = s.startupExpiry := rfl
@[simp] theorem withdrawSource_silenceSince (s : State) (c : Chan) (src : Source) : (s.withdrawSource c src).silenceSince = s.silenceSince := rfl
@[simp] theorem withdrawSource_attention (s : State) (c : Chan) (src : Source) : (s.withdrawSource c src).attention = s.attention := rfl
@[simp] theorem withdrawSource_profile (s : State) (c : Chan) (src : Source) : (s.withdrawSource c src).profile = s.profile := rfl
@[simp] theorem withdrawSource_profileValid (s : State) (c : Chan) (src : Source) : (s.withdrawSource c src).profileValid = s.profileValid := rfl
@[simp] theorem withdrawSource_storing (s : State) (c : Chan) (src : Source) : (s.withdrawSource c src).storing = s.storing := rfl
@[simp] theorem withdrawSource_slots (s : State) (c : Chan) (src : Source) : (s.withdrawSource c src).slots = s.slots := rfl
@[simp] theorem withdrawSource_table (s : State) (c : Chan) (src : Source) : (s.withdrawSource c src).table = s.table := rfl
@[simp] theorem withdrawSource_device (s : State) (c : Chan) (src : Source) : (s.withdrawSource c src).device = s.device := rfl
@[simp] theorem withdrawSource_pairings (s : State) (c : Chan) (src : Source) : (s.withdrawSource c src).pairings = s.pairings := rfl
@[simp] theorem withdrawSource_areaA (s : State) (c : Chan) (src : Source) : (s.withdrawSource c src).areaA = s.areaA := rfl
@[simp] theorem withdrawSource_areaB (s : State) (c : Chan) (src : Source) : (s.withdrawSource c src).areaB = s.areaB := rfl
@[simp] theorem withdrawSource_response (s : State) (c : Chan) (src : Source) : (s.withdrawSource c src).response = s.response := rfl
@[simp] theorem withdrawSource_examine (s : State) (c : Chan) (src : Source) : (s.withdrawSource c src).examine = s.examine := rfl
@[simp] theorem withdrawSource_pending (s : State) (c : Chan) (src : Source) : (s.withdrawSource c src).pending = s.pending := rfl

@[simp] theorem orphanOn_now (s : State) (c : Chan) (i : SlotId) (p : Frame → Bool) : (s.orphanOn c i p).now = s.now := rfl
@[simp] theorem orphanOn_mode (s : State) (c : Chan) (i : SlotId) (p : Frame → Bool) : (s.orphanOn c i p).mode = s.mode := rfl
@[simp] theorem orphanOn_startupExpiry (s : State) (c : Chan) (i : SlotId) (p : Frame → Bool) : (s.orphanOn c i p).startupExpiry = s.startupExpiry := rfl
@[simp] theorem orphanOn_silenceSince (s : State) (c : Chan) (i : SlotId) (p : Frame → Bool) : (s.orphanOn c i p).silenceSince = s.silenceSince := rfl
@[simp] theorem orphanOn_attention (s : State) (c : Chan) (i : SlotId) (p : Frame → Bool) : (s.orphanOn c i p).attention = s.attention := rfl
@[simp] theorem orphanOn_profile (s : State) (c : Chan) (i : SlotId) (p : Frame → Bool) : (s.orphanOn c i p).profile = s.profile := rfl
@[simp] theorem orphanOn_profileValid (s : State) (c : Chan) (i : SlotId) (p : Frame → Bool) : (s.orphanOn c i p).profileValid = s.profileValid := rfl
@[simp] theorem orphanOn_storing (s : State) (c : Chan) (i : SlotId) (p : Frame → Bool) : (s.orphanOn c i p).storing = s.storing := rfl
@[simp] theorem orphanOn_slots (s : State) (c : Chan) (i : SlotId) (p : Frame → Bool) : (s.orphanOn c i p).slots = s.slots := rfl
@[simp] theorem orphanOn_table (s : State) (c : Chan) (i : SlotId) (p : Frame → Bool) : (s.orphanOn c i p).table = s.table := rfl
@[simp] theorem orphanOn_device (s : State) (c : Chan) (i : SlotId) (p : Frame → Bool) : (s.orphanOn c i p).device = s.device := rfl
@[simp] theorem orphanOn_pairings (s : State) (c : Chan) (i : SlotId) (p : Frame → Bool) : (s.orphanOn c i p).pairings = s.pairings := rfl
@[simp] theorem orphanOn_areaA (s : State) (c : Chan) (i : SlotId) (p : Frame → Bool) : (s.orphanOn c i p).areaA = s.areaA := rfl
@[simp] theorem orphanOn_areaB (s : State) (c : Chan) (i : SlotId) (p : Frame → Bool) : (s.orphanOn c i p).areaB = s.areaB := rfl
@[simp] theorem orphanOn_response (s : State) (c : Chan) (i : SlotId) (p : Frame → Bool) : (s.orphanOn c i p).response = s.response := rfl
@[simp] theorem orphanOn_examine (s : State) (c : Chan) (i : SlotId) (p : Frame → Bool) : (s.orphanOn c i p).examine = s.examine := rfl
@[simp] theorem orphanOn_pending (s : State) (c : Chan) (i : SlotId) (p : Frame → Bool) : (s.orphanOn c i p).pending = s.pending := rfl

@[simp] theorem takePhase_now (s : State) (c : Chan) (p : Phase) (i : SlotId) : (s.takePhase c p i).now = s.now := rfl
@[simp] theorem takePhase_mode (s : State) (c : Chan) (p : Phase) (i : SlotId) : (s.takePhase c p i).mode = s.mode := rfl
@[simp] theorem takePhase_startupExpiry (s : State) (c : Chan) (p : Phase) (i : SlotId) : (s.takePhase c p i).startupExpiry = s.startupExpiry := rfl
@[simp] theorem takePhase_silenceSince (s : State) (c : Chan) (p : Phase) (i : SlotId) : (s.takePhase c p i).silenceSince = s.silenceSince := rfl
@[simp] theorem takePhase_attention (s : State) (c : Chan) (p : Phase) (i : SlotId) : (s.takePhase c p i).attention = s.attention := rfl
@[simp] theorem takePhase_profile (s : State) (c : Chan) (p : Phase) (i : SlotId) : (s.takePhase c p i).profile = s.profile := rfl
@[simp] theorem takePhase_profileValid (s : State) (c : Chan) (p : Phase) (i : SlotId) : (s.takePhase c p i).profileValid = s.profileValid := rfl
@[simp] theorem takePhase_storing (s : State) (c : Chan) (p : Phase) (i : SlotId) : (s.takePhase c p i).storing = s.storing := rfl
@[simp] theorem takePhase_slots (s : State) (c : Chan) (p : Phase) (i : SlotId) : (s.takePhase c p i).slots = s.slots := rfl
@[simp] theorem takePhase_table (s : State) (c : Chan) (p : Phase) (i : SlotId) : (s.takePhase c p i).table = s.table := rfl
@[simp] theorem takePhase_device (s : State) (c : Chan) (p : Phase) (i : SlotId) : (s.takePhase c p i).device = s.device := rfl
@[simp] theorem takePhase_pairings (s : State) (c : Chan) (p : Phase) (i : SlotId) : (s.takePhase c p i).pairings = s.pairings := rfl
@[simp] theorem takePhase_areaA (s : State) (c : Chan) (p : Phase) (i : SlotId) : (s.takePhase c p i).areaA = s.areaA := rfl
@[simp] theorem takePhase_areaB (s : State) (c : Chan) (p : Phase) (i : SlotId) : (s.takePhase c p i).areaB = s.areaB := rfl
@[simp] theorem takePhase_response (s : State) (c : Chan) (p : Phase) (i : SlotId) : (s.takePhase c p i).response = s.response := rfl
@[simp] theorem takePhase_examine (s : State) (c : Chan) (p : Phase) (i : SlotId) : (s.takePhase c p i).examine = s.examine := rfl
@[simp] theorem takePhase_pending (s : State) (c : Chan) (p : Phase) (i : SlotId) : (s.takePhase c p i).pending = s.pending := rfl

@[simp] theorem freePhase_now (s : State) (c : Chan) (p : Phase) : (s.freePhase c p).now = s.now := rfl
@[simp] theorem freePhase_mode (s : State) (c : Chan) (p : Phase) : (s.freePhase c p).mode = s.mode := rfl
@[simp] theorem freePhase_startupExpiry (s : State) (c : Chan) (p : Phase) : (s.freePhase c p).startupExpiry = s.startupExpiry := rfl
@[simp] theorem freePhase_silenceSince (s : State) (c : Chan) (p : Phase) : (s.freePhase c p).silenceSince = s.silenceSince := rfl
@[simp] theorem freePhase_attention (s : State) (c : Chan) (p : Phase) : (s.freePhase c p).attention = s.attention := rfl
@[simp] theorem freePhase_profile (s : State) (c : Chan) (p : Phase) : (s.freePhase c p).profile = s.profile := rfl
@[simp] theorem freePhase_profileValid (s : State) (c : Chan) (p : Phase) : (s.freePhase c p).profileValid = s.profileValid := rfl
@[simp] theorem freePhase_storing (s : State) (c : Chan) (p : Phase) : (s.freePhase c p).storing = s.storing := rfl
@[simp] theorem freePhase_slots (s : State) (c : Chan) (p : Phase) : (s.freePhase c p).slots = s.slots := rfl
@[simp] theorem freePhase_table (s : State) (c : Chan) (p : Phase) : (s.freePhase c p).table = s.table := rfl
@[simp] theorem freePhase_device (s : State) (c : Chan) (p : Phase) : (s.freePhase c p).device = s.device := rfl
@[simp] theorem freePhase_pairings (s : State) (c : Chan) (p : Phase) : (s.freePhase c p).pairings = s.pairings := rfl
@[simp] theorem freePhase_areaA (s : State) (c : Chan) (p : Phase) : (s.freePhase c p).areaA = s.areaA := rfl
@[simp] theorem freePhase_areaB (s : State) (c : Chan) (p : Phase) : (s.freePhase c p).areaB = s.areaB := rfl
@[simp] theorem freePhase_response (s : State) (c : Chan) (p : Phase) : (s.freePhase c p).response = s.response := rfl
@[simp] theorem freePhase_pending (s : State) (c : Chan) (p : Phase) : (s.freePhase c p).pending = s.pending := rfl

@[simp] theorem groupNotice_now (s : State) (i : SlotId) (n : Notice) (d : NoticeTo) : (s.groupNotice i n d).now = s.now := modGroup_now _ _ _
@[simp] theorem groupNotice_mode (s : State) (i : SlotId) (n : Notice) (d : NoticeTo) : (s.groupNotice i n d).mode = s.mode := modGroup_mode _ _ _
@[simp] theorem groupNotice_startupExpiry (s : State) (i : SlotId) (n : Notice) (d : NoticeTo) : (s.groupNotice i n d).startupExpiry = s.startupExpiry := modGroup_startupExpiry _ _ _
@[simp] theorem groupNotice_silenceSince (s : State) (i : SlotId) (n : Notice) (d : NoticeTo) : (s.groupNotice i n d).silenceSince = s.silenceSince := modGroup_silenceSince _ _ _
@[simp] theorem groupNotice_attention (s : State) (i : SlotId) (n : Notice) (d : NoticeTo) : (s.groupNotice i n d).attention = s.attention := modGroup_attention _ _ _
@[simp] theorem groupNotice_profile (s : State) (i : SlotId) (n : Notice) (d : NoticeTo) : (s.groupNotice i n d).profile = s.profile := modGroup_profile _ _ _
@[simp] theorem groupNotice_profileValid (s : State) (i : SlotId) (n : Notice) (d : NoticeTo) : (s.groupNotice i n d).profileValid = s.profileValid := modGroup_profileValid _ _ _
@[simp] theorem groupNotice_storing (s : State) (i : SlotId) (n : Notice) (d : NoticeTo) : (s.groupNotice i n d).storing = s.storing := modGroup_storing _ _ _
@[simp] theorem groupNotice_table (s : State) (i : SlotId) (n : Notice) (d : NoticeTo) : (s.groupNotice i n d).table = s.table := modGroup_table _ _ _
@[simp] theorem groupNotice_chans (s : State) (i : SlotId) (n : Notice) (d : NoticeTo) : (s.groupNotice i n d).chans = s.chans := modGroup_chans _ _ _
@[simp] theorem groupNotice_device (s : State) (i : SlotId) (n : Notice) (d : NoticeTo) : (s.groupNotice i n d).device = s.device := modGroup_device _ _ _
@[simp] theorem groupNotice_pairings (s : State) (i : SlotId) (n : Notice) (d : NoticeTo) : (s.groupNotice i n d).pairings = s.pairings := modGroup_pairings _ _ _
@[simp] theorem groupNotice_areaA (s : State) (i : SlotId) (n : Notice) (d : NoticeTo) : (s.groupNotice i n d).areaA = s.areaA := modGroup_areaA _ _ _
@[simp] theorem groupNotice_areaB (s : State) (i : SlotId) (n : Notice) (d : NoticeTo) : (s.groupNotice i n d).areaB = s.areaB := modGroup_areaB _ _ _
@[simp] theorem groupNotice_response (s : State) (i : SlotId) (n : Notice) (d : NoticeTo) : (s.groupNotice i n d).response = s.response := modGroup_response _ _ _
@[simp] theorem groupNotice_examine (s : State) (i : SlotId) (n : Notice) (d : NoticeTo) : (s.groupNotice i n d).examine = s.examine := modGroup_examine _ _ _
@[simp] theorem groupNotice_pending (s : State) (i : SlotId) (n : Notice) (d : NoticeTo) : (s.groupNotice i n d).pending = s.pending := modGroup_pending _ _ _

@[simp] theorem toLeader_now (s : State) (i : SlotId) (n : Notice) : (s.toLeader i n).now = s.now := modGroup_now _ _ _
@[simp] theorem toLeader_mode (s : State) (i : SlotId) (n : Notice) : (s.toLeader i n).mode = s.mode := modGroup_mode _ _ _
@[simp] theorem toLeader_startupExpiry (s : State) (i : SlotId) (n : Notice) : (s.toLeader i n).startupExpiry = s.startupExpiry := modGroup_startupExpiry _ _ _
@[simp] theorem toLeader_silenceSince (s : State) (i : SlotId) (n : Notice) : (s.toLeader i n).silenceSince = s.silenceSince := modGroup_silenceSince _ _ _
@[simp] theorem toLeader_attention (s : State) (i : SlotId) (n : Notice) : (s.toLeader i n).attention = s.attention := modGroup_attention _ _ _
@[simp] theorem toLeader_profile (s : State) (i : SlotId) (n : Notice) : (s.toLeader i n).profile = s.profile := modGroup_profile _ _ _
@[simp] theorem toLeader_profileValid (s : State) (i : SlotId) (n : Notice) : (s.toLeader i n).profileValid = s.profileValid := modGroup_profileValid _ _ _
@[simp] theorem toLeader_storing (s : State) (i : SlotId) (n : Notice) : (s.toLeader i n).storing = s.storing := modGroup_storing _ _ _
@[simp] theorem toLeader_table (s : State) (i : SlotId) (n : Notice) : (s.toLeader i n).table = s.table := modGroup_table _ _ _
@[simp] theorem toLeader_chans (s : State) (i : SlotId) (n : Notice) : (s.toLeader i n).chans = s.chans := modGroup_chans _ _ _
@[simp] theorem toLeader_device (s : State) (i : SlotId) (n : Notice) : (s.toLeader i n).device = s.device := modGroup_device _ _ _
@[simp] theorem toLeader_pairings (s : State) (i : SlotId) (n : Notice) : (s.toLeader i n).pairings = s.pairings := modGroup_pairings _ _ _
@[simp] theorem toLeader_areaA (s : State) (i : SlotId) (n : Notice) : (s.toLeader i n).areaA = s.areaA := modGroup_areaA _ _ _
@[simp] theorem toLeader_areaB (s : State) (i : SlotId) (n : Notice) : (s.toLeader i n).areaB = s.areaB := modGroup_areaB _ _ _
@[simp] theorem toLeader_response (s : State) (i : SlotId) (n : Notice) : (s.toLeader i n).response = s.response := modGroup_response _ _ _
@[simp] theorem toLeader_examine (s : State) (i : SlotId) (n : Notice) : (s.toLeader i n).examine = s.examine := modGroup_examine _ _ _
@[simp] theorem toLeader_pending (s : State) (i : SlotId) (n : Notice) : (s.toLeader i n).pending = s.pending := modGroup_pending _ _ _

@[simp] theorem toRadio_now (s : State) (i : SlotId) (r : Radio) (n : Notice) : (s.toRadio i r n).now = s.now := modGroup_now _ _ _
@[simp] theorem toRadio_mode (s : State) (i : SlotId) (r : Radio) (n : Notice) : (s.toRadio i r n).mode = s.mode := modGroup_mode _ _ _
@[simp] theorem toRadio_startupExpiry (s : State) (i : SlotId) (r : Radio) (n : Notice) : (s.toRadio i r n).startupExpiry = s.startupExpiry := modGroup_startupExpiry _ _ _
@[simp] theorem toRadio_silenceSince (s : State) (i : SlotId) (r : Radio) (n : Notice) : (s.toRadio i r n).silenceSince = s.silenceSince := modGroup_silenceSince _ _ _
@[simp] theorem toRadio_attention (s : State) (i : SlotId) (r : Radio) (n : Notice) : (s.toRadio i r n).attention = s.attention := modGroup_attention _ _ _
@[simp] theorem toRadio_profile (s : State) (i : SlotId) (r : Radio) (n : Notice) : (s.toRadio i r n).profile = s.profile := modGroup_profile _ _ _
@[simp] theorem toRadio_profileValid (s : State) (i : SlotId) (r : Radio) (n : Notice) : (s.toRadio i r n).profileValid = s.profileValid := modGroup_profileValid _ _ _
@[simp] theorem toRadio_storing (s : State) (i : SlotId) (r : Radio) (n : Notice) : (s.toRadio i r n).storing = s.storing := modGroup_storing _ _ _
@[simp] theorem toRadio_table (s : State) (i : SlotId) (r : Radio) (n : Notice) : (s.toRadio i r n).table = s.table := modGroup_table _ _ _
@[simp] theorem toRadio_chans (s : State) (i : SlotId) (r : Radio) (n : Notice) : (s.toRadio i r n).chans = s.chans := modGroup_chans _ _ _
@[simp] theorem toRadio_device (s : State) (i : SlotId) (r : Radio) (n : Notice) : (s.toRadio i r n).device = s.device := modGroup_device _ _ _
@[simp] theorem toRadio_pairings (s : State) (i : SlotId) (r : Radio) (n : Notice) : (s.toRadio i r n).pairings = s.pairings := modGroup_pairings _ _ _
@[simp] theorem toRadio_areaA (s : State) (i : SlotId) (r : Radio) (n : Notice) : (s.toRadio i r n).areaA = s.areaA := modGroup_areaA _ _ _
@[simp] theorem toRadio_areaB (s : State) (i : SlotId) (r : Radio) (n : Notice) : (s.toRadio i r n).areaB = s.areaB := modGroup_areaB _ _ _
@[simp] theorem toRadio_response (s : State) (i : SlotId) (r : Radio) (n : Notice) : (s.toRadio i r n).response = s.response := modGroup_response _ _ _
@[simp] theorem toRadio_examine (s : State) (i : SlotId) (r : Radio) (n : Notice) : (s.toRadio i r n).examine = s.examine := modGroup_examine _ _ _
@[simp] theorem toRadio_pending (s : State) (i : SlotId) (r : Radio) (n : Notice) : (s.toRadio i r n).pending = s.pending := modGroup_pending _ _ _

@[simp] theorem channelFrame_now (s : State) (c : Chan) (b : ChannelBody) (r : Radio) (n : Nat) : (s.channelFrame c b r n).now = s.now := rfl
@[simp] theorem channelFrame_mode (s : State) (c : Chan) (b : ChannelBody) (r : Radio) (n : Nat) : (s.channelFrame c b r n).mode = s.mode := rfl
@[simp] theorem channelFrame_startupExpiry (s : State) (c : Chan) (b : ChannelBody) (r : Radio) (n : Nat) : (s.channelFrame c b r n).startupExpiry = s.startupExpiry := rfl
@[simp] theorem channelFrame_silenceSince (s : State) (c : Chan) (b : ChannelBody) (r : Radio) (n : Nat) : (s.channelFrame c b r n).silenceSince = s.silenceSince := rfl
@[simp] theorem channelFrame_attention (s : State) (c : Chan) (b : ChannelBody) (r : Radio) (n : Nat) : (s.channelFrame c b r n).attention = s.attention := rfl
@[simp] theorem channelFrame_profile (s : State) (c : Chan) (b : ChannelBody) (r : Radio) (n : Nat) : (s.channelFrame c b r n).profile = s.profile := rfl
@[simp] theorem channelFrame_profileValid (s : State) (c : Chan) (b : ChannelBody) (r : Radio) (n : Nat) : (s.channelFrame c b r n).profileValid = s.profileValid := rfl
@[simp] theorem channelFrame_storing (s : State) (c : Chan) (b : ChannelBody) (r : Radio) (n : Nat) : (s.channelFrame c b r n).storing = s.storing := rfl
@[simp] theorem channelFrame_slots (s : State) (c : Chan) (b : ChannelBody) (r : Radio) (n : Nat) : (s.channelFrame c b r n).slots = s.slots := rfl
@[simp] theorem channelFrame_table (s : State) (c : Chan) (b : ChannelBody) (r : Radio) (n : Nat) : (s.channelFrame c b r n).table = s.table := rfl
@[simp] theorem channelFrame_device (s : State) (c : Chan) (b : ChannelBody) (r : Radio) (n : Nat) : (s.channelFrame c b r n).device = s.device := rfl
@[simp] theorem channelFrame_pairings (s : State) (c : Chan) (b : ChannelBody) (r : Radio) (n : Nat) : (s.channelFrame c b r n).pairings = s.pairings := rfl
@[simp] theorem channelFrame_areaA (s : State) (c : Chan) (b : ChannelBody) (r : Radio) (n : Nat) : (s.channelFrame c b r n).areaA = s.areaA := rfl
@[simp] theorem channelFrame_areaB (s : State) (c : Chan) (b : ChannelBody) (r : Radio) (n : Nat) : (s.channelFrame c b r n).areaB = s.areaB := rfl
@[simp] theorem channelFrame_response (s : State) (c : Chan) (b : ChannelBody) (r : Radio) (n : Nat) : (s.channelFrame c b r n).response = s.response := rfl
@[simp] theorem channelFrame_examine (s : State) (c : Chan) (b : ChannelBody) (r : Radio) (n : Nat) : (s.channelFrame c b r n).examine = s.examine := rfl
@[simp] theorem channelFrame_pending (s : State) (c : Chan) (b : ChannelBody) (r : Radio) (n : Nat) : (s.channelFrame c b r n).pending = s.pending := rfl

@[simp] theorem channelNotice_now (s : State) (c : Chan) (x : Notice) (r : Radio) (n : Nat) : (s.channelNotice c x r n).now = s.now := rfl
@[simp] theorem channelNotice_mode (s : State) (c : Chan) (x : Notice) (r : Radio) (n : Nat) : (s.channelNotice c x r n).mode = s.mode := rfl
@[simp] theorem channelNotice_startupExpiry (s : State) (c : Chan) (x : Notice) (r : Radio) (n : Nat) : (s.channelNotice c x r n).startupExpiry = s.startupExpiry := rfl
@[simp] theorem channelNotice_silenceSince (s : State) (c : Chan) (x : Notice) (r : Radio) (n : Nat) : (s.channelNotice c x r n).silenceSince = s.silenceSince := rfl
@[simp] theorem channelNotice_attention (s : State) (c : Chan) (x : Notice) (r : Radio) (n : Nat) : (s.channelNotice c x r n).attention = s.attention := rfl
@[simp] theorem channelNotice_profile (s : State) (c : Chan) (x : Notice) (r : Radio) (n : Nat) : (s.channelNotice c x r n).profile = s.profile := rfl
@[simp] theorem channelNotice_profileValid (s : State) (c : Chan) (x : Notice) (r : Radio) (n : Nat) : (s.channelNotice c x r n).profileValid = s.profileValid := rfl
@[simp] theorem channelNotice_storing (s : State) (c : Chan) (x : Notice) (r : Radio) (n : Nat) : (s.channelNotice c x r n).storing = s.storing := rfl
@[simp] theorem channelNotice_slots (s : State) (c : Chan) (x : Notice) (r : Radio) (n : Nat) : (s.channelNotice c x r n).slots = s.slots := rfl
@[simp] theorem channelNotice_table (s : State) (c : Chan) (x : Notice) (r : Radio) (n : Nat) : (s.channelNotice c x r n).table = s.table := rfl
@[simp] theorem channelNotice_device (s : State) (c : Chan) (x : Notice) (r : Radio) (n : Nat) : (s.channelNotice c x r n).device = s.device := rfl
@[simp] theorem channelNotice_pairings (s : State) (c : Chan) (x : Notice) (r : Radio) (n : Nat) : (s.channelNotice c x r n).pairings = s.pairings := rfl
@[simp] theorem channelNotice_areaA (s : State) (c : Chan) (x : Notice) (r : Radio) (n : Nat) : (s.channelNotice c x r n).areaA = s.areaA := rfl
@[simp] theorem channelNotice_areaB (s : State) (c : Chan) (x : Notice) (r : Radio) (n : Nat) : (s.channelNotice c x r n).areaB = s.areaB := rfl
@[simp] theorem channelNotice_response (s : State) (c : Chan) (x : Notice) (r : Radio) (n : Nat) : (s.channelNotice c x r n).response = s.response := rfl
@[simp] theorem channelNotice_examine (s : State) (c : Chan) (x : Notice) (r : Radio) (n : Nat) : (s.channelNotice c x r n).examine = s.examine := rfl
@[simp] theorem channelNotice_pending (s : State) (c : Chan) (x : Notice) (r : Radio) (n : Nat) : (s.channelNotice c x r n).pending = s.pending := rfl

@[simp] theorem dropEntry_now (s : State) (r : Radio) : (s.dropEntry r).now = s.now := rfl
@[simp] theorem dropEntry_mode (s : State) (r : Radio) : (s.dropEntry r).mode = s.mode := rfl
@[simp] theorem dropEntry_startupExpiry (s : State) (r : Radio) : (s.dropEntry r).startupExpiry = s.startupExpiry := rfl
@[simp] theorem dropEntry_silenceSince (s : State) (r : Radio) : (s.dropEntry r).silenceSince = s.silenceSince := rfl
@[simp] theorem dropEntry_attention (s : State) (r : Radio) : (s.dropEntry r).attention = s.attention := rfl
@[simp] theorem dropEntry_profile (s : State) (r : Radio) : (s.dropEntry r).profile = s.profile := rfl
@[simp] theorem dropEntry_profileValid (s : State) (r : Radio) : (s.dropEntry r).profileValid = s.profileValid := rfl
@[simp] theorem dropEntry_storing (s : State) (r : Radio) : (s.dropEntry r).storing = s.storing := rfl
@[simp] theorem dropEntry_slots (s : State) (r : Radio) : (s.dropEntry r).slots = s.slots := rfl
@[simp] theorem dropEntry_chans (s : State) (r : Radio) : (s.dropEntry r).chans = s.chans := rfl
@[simp] theorem dropEntry_device (s : State) (r : Radio) : (s.dropEntry r).device = s.device := rfl
@[simp] theorem dropEntry_pairings (s : State) (r : Radio) : (s.dropEntry r).pairings = s.pairings := rfl
@[simp] theorem dropEntry_areaA (s : State) (r : Radio) : (s.dropEntry r).areaA = s.areaA := rfl
@[simp] theorem dropEntry_areaB (s : State) (r : Radio) : (s.dropEntry r).areaB = s.areaB := rfl
@[simp] theorem dropEntry_response (s : State) (r : Radio) : (s.dropEntry r).response = s.response := rfl
@[simp] theorem dropEntry_examine (s : State) (r : Radio) : (s.dropEntry r).examine = s.examine := rfl
@[simp] theorem dropEntry_pending (s : State) (r : Radio) : (s.dropEntry r).pending = s.pending := rfl

@[simp] theorem appendEntry_now (s : State) (e : RegEntry) : (s.appendEntry e).now = s.now := rfl
@[simp] theorem appendEntry_mode (s : State) (e : RegEntry) : (s.appendEntry e).mode = s.mode := rfl
@[simp] theorem appendEntry_startupExpiry (s : State) (e : RegEntry) : (s.appendEntry e).startupExpiry = s.startupExpiry := rfl
@[simp] theorem appendEntry_silenceSince (s : State) (e : RegEntry) : (s.appendEntry e).silenceSince = s.silenceSince := rfl
@[simp] theorem appendEntry_attention (s : State) (e : RegEntry) : (s.appendEntry e).attention = s.attention := rfl
@[simp] theorem appendEntry_profile (s : State) (e : RegEntry) : (s.appendEntry e).profile = s.profile := rfl
@[simp] theorem appendEntry_profileValid (s : State) (e : RegEntry) : (s.appendEntry e).profileValid = s.profileValid := rfl
@[simp] theorem appendEntry_storing (s : State) (e : RegEntry) : (s.appendEntry e).storing = s.storing := rfl
@[simp] theorem appendEntry_slots (s : State) (e : RegEntry) : (s.appendEntry e).slots = s.slots := rfl
@[simp] theorem appendEntry_chans (s : State) (e : RegEntry) : (s.appendEntry e).chans = s.chans := rfl
@[simp] theorem appendEntry_device (s : State) (e : RegEntry) : (s.appendEntry e).device = s.device := rfl
@[simp] theorem appendEntry_pairings (s : State) (e : RegEntry) : (s.appendEntry e).pairings = s.pairings := rfl
@[simp] theorem appendEntry_areaA (s : State) (e : RegEntry) : (s.appendEntry e).areaA = s.areaA := rfl
@[simp] theorem appendEntry_areaB (s : State) (e : RegEntry) : (s.appendEntry e).areaB = s.areaB := rfl
@[simp] theorem appendEntry_response (s : State) (e : RegEntry) : (s.appendEntry e).response = s.response := rfl
@[simp] theorem appendEntry_examine (s : State) (e : RegEntry) : (s.appendEntry e).examine = s.examine := rfl
@[simp] theorem appendEntry_pending (s : State) (e : RegEntry) : (s.appendEntry e).pending = s.pending := rfl

@[simp] theorem pin_now (s : State) (r : Radio) (i : SlotId) : (s.pin r i).now = s.now := rfl
@[simp] theorem pin_mode (s : State) (r : Radio) (i : SlotId) : (s.pin r i).mode = s.mode := rfl
@[simp] theorem pin_startupExpiry (s : State) (r : Radio) (i : SlotId) : (s.pin r i).startupExpiry = s.startupExpiry := rfl
@[simp] theorem pin_silenceSince (s : State) (r : Radio) (i : SlotId) : (s.pin r i).silenceSince = s.silenceSince := rfl
@[simp] theorem pin_attention (s : State) (r : Radio) (i : SlotId) : (s.pin r i).attention = s.attention := rfl
@[simp] theorem pin_profile (s : State) (r : Radio) (i : SlotId) : (s.pin r i).profile = s.profile := rfl
@[simp] theorem pin_profileValid (s : State) (r : Radio) (i : SlotId) : (s.pin r i).profileValid = s.profileValid := rfl
@[simp] theorem pin_storing (s : State) (r : Radio) (i : SlotId) : (s.pin r i).storing = s.storing := rfl
@[simp] theorem pin_slots (s : State) (r : Radio) (i : SlotId) : (s.pin r i).slots = s.slots := rfl
@[simp] theorem pin_chans (s : State) (r : Radio) (i : SlotId) : (s.pin r i).chans = s.chans := rfl
@[simp] theorem pin_device (s : State) (r : Radio) (i : SlotId) : (s.pin r i).device = s.device := rfl
@[simp] theorem pin_pairings (s : State) (r : Radio) (i : SlotId) : (s.pin r i).pairings = s.pairings := rfl
@[simp] theorem pin_areaA (s : State) (r : Radio) (i : SlotId) : (s.pin r i).areaA = s.areaA := rfl
@[simp] theorem pin_areaB (s : State) (r : Radio) (i : SlotId) : (s.pin r i).areaB = s.areaB := rfl
@[simp] theorem pin_response (s : State) (r : Radio) (i : SlotId) : (s.pin r i).response = s.response := rfl
@[simp] theorem pin_examine (s : State) (r : Radio) (i : SlotId) : (s.pin r i).examine = s.examine := rfl
@[simp] theorem pin_pending (s : State) (r : Radio) (i : SlotId) : (s.pin r i).pending = s.pending := rfl

end Sys2Proof.Machine.Laws
end

