-- ==== Sys2Proof/Laws/Records.lean ====
section
/-! SUPPORT. Reading a channel, a slot or a group record after a write: the written one has the new value, every other one
is as before. -/

namespace Sys2Proof.Machine.Laws

@[simp] theorem tick_now (s : State) (t : Instant) : (s.tick t).now = max s.now t := rfl

@[simp] theorem attend_attention (s : State) (x : AttnItem) : (s.attend x).attention = attnAdd x s.attention := rfl

@[simp] theorem freePhase_examine (s : State) (c : Chan) (p : Phase) : (s.freePhase c p).examine = true := rfl

/-! ### Channels -/

theorem chan_def (s : State) (c : Chan) : s.chan c = s.chans[c.val] := rfl

theorem slot_def (s : State) (i : SlotId) : s.slot i = s.slots[i.val] := rfl

theorem chan_setChan (s : State) (c d : Chan) (v : Channel) :
    (s.setChan c v).chan d = if c = d then v else s.chan d := by
  simp only [chan_def, State.setChan, Vector.getElem_set]
  by_cases h : c = d
  · simp [h]
  · rw [if_neg h, if_neg (fun e => h (Fin.ext e))]

@[simp] theorem chan_setChan_self (s : State) (c : Chan) (v : Channel) : (s.setChan c v).chan c = v := by
  simp [chan_setChan]

theorem chan_setChan_ne (s : State) {c d : Chan} (v : Channel) (h : c ≠ d) : (s.setChan c v).chan d = s.chan d := by
  simp [chan_setChan, h]

theorem chan_modChan (s : State) (c d : Chan) (f : Channel → Channel) :
    (s.modChan c f).chan d = if c = d then f (s.chan c) else s.chan d := chan_setChan s c d _

@[simp] theorem chan_modChan_self (s : State) (c : Chan) (f : Channel → Channel) :
    (s.modChan c f).chan c = f (s.chan c) := by simp [chan_modChan]

theorem chan_modChan_ne (s : State) {c d : Chan} (f : Channel → Channel) (h : c ≠ d) :
    (s.modChan c f).chan d = s.chan d := by simp [chan_modChan, h]

theorem chan_congr {s s' : State} (h : s'.chans = s.chans) (c : Chan) : s'.chan c = s.chan c := by
  simp [chan_def, h]

@[simp] theorem chan_tick (s : State) (t : Instant) (c : Chan) : (s.tick t).chan c = s.chan c := rfl

@[simp] theorem chan_setSlot (s : State) (i : SlotId) (v : Slot) (c : Chan) : (s.setSlot i v).chan c = s.chan c := rfl

@[simp] theorem chan_mark (s : State) (i : SlotId) (c : Chan) : (s.mark i).chan c = s.chan c := rfl

@[simp] theorem chan_modGroup (s : State) (i : SlotId) (f : Group → Group) (c : Chan) :
    (s.modGroup i f).chan c = s.chan c := chan_congr (modGroup_chans s i f) c

@[simp] theorem chan_groupNotice (s : State) (i : SlotId) (n : Notice) (d : NoticeTo) (c : Chan) :
    (s.groupNotice i n d).chan c = s.chan c := chan_modGroup s i _ c

@[simp] theorem chan_toLeader (s : State) (i : SlotId) (n : Notice) (c : Chan) : (s.toLeader i n).chan c = s.chan c :=
  chan_modGroup s i _ c

@[simp] theorem chan_toRadio (s : State) (i : SlotId) (r : Radio) (n : Notice) (c : Chan) :
    (s.toRadio i r n).chan c = s.chan c := chan_modGroup s i _ c

@[simp] theorem chan_attend (s : State) (x : AttnItem) (c : Chan) : (s.attend x).chan c = s.chan c := rfl

@[simp] theorem chan_dropEntry (s : State) (r : Radio) (c : Chan) : (s.dropEntry r).chan c = s.chan c := rfl

@[simp] theorem chan_appendEntry (s : State) (e : RegEntry) (c : Chan) : (s.appendEntry e).chan c = s.chan c := rfl

/-! ### Slots and group records -/

theorem slot_setSlot (s : State) (i j : SlotId) (v : Slot) :
    (s.setSlot i v).slot j = if i = j then v else s.slot j := by
  simp only [slot_def, State.setSlot, Vector.getElem_set]
  by_cases h : i = j
  · simp [h]
  · rw [if_neg h, if_neg (fun e => h (Fin.ext e))]

@[simp] theorem slot_setSlot_self (s : State) (i : SlotId) (v : Slot) : (s.setSlot i v).slot i = v := by
  simp [slot_setSlot]

theorem slot_setSlot_ne (s : State) {i j : SlotId} (v : Slot) (h : i ≠ j) : (s.setSlot i v).slot j = s.slot j := by
  simp [slot_setSlot, h]

theorem slot_congr {s s' : State} (h : s'.slots = s.slots) (i : SlotId) : s'.slot i = s.slot i := by
  simp [slot_def, h]

theorem group_congr {s s' : State} (h : s'.slots = s.slots) (i : SlotId) : s'.group i = s.group i := by
  simp [State.group, slot_congr h]

theorem group_eq_some {s : State} {i : SlotId} {g : Group} (h : s.group i = some g) : (s.slot i).body = .held g := by
  unfold State.group at h
  split at h
  · next h' => rw [h']; exact congrArg _ (Option.some.inj h)
  · cases h

theorem group_of_body {s : State} {i : SlotId} {g : Group} (h : (s.slot i).body = .held g) : s.group i = some g := by
  simp [State.group, h]

@[simp] theorem group_setSlot_held (s : State) (i : SlotId) (b : Bool) (g : Group) :
    (s.setSlot i { changed := b, body := .held g }).group i = some g := by simp [State.group]

@[simp] theorem group_setSlot_free (s : State) (i : SlotId) (b : Bool) (o : SlotOutcome) :
    (s.setSlot i { changed := b, body := .free o }).group i = none := by simp [State.group]

theorem group_setSlot_ne (s : State) {i j : SlotId} (v : Slot) (h : i ≠ j) : (s.setSlot i v).group j = s.group j := by
  simp [State.group, slot_setSlot_ne s v h]

/-- A change of a group record is a write of its slot. -/
theorem modGroup_eq {s : State} {i : SlotId} {g : Group} (f : Group → Group) (h : s.group i = some g) :
    s.modGroup i f = s.setSlot i { changed := (s.slot i).changed, body := .held (f g) } := by
  simp [State.modGroup, group_eq_some h]

/-- A change of the group record of a FREE slot changes nothing. -/
theorem modGroup_free {s : State} {i : SlotId} (f : Group → Group) (h : s.group i = none) : s.modGroup i f = s := by
  unfold State.group at h
  unfold State.modGroup
  split at h
  · cases h
  · rfl

@[simp] theorem group_modGroup_self (s : State) (i : SlotId) (f : Group → Group) :
    (s.modGroup i f).group i = (s.group i).map f := by
  cases h : s.group i with
  | none => simp [modGroup_free f h, h]
  | some g => simp [modGroup_eq f h]

theorem group_modGroup_ne (s : State) {i j : SlotId} (f : Group → Group) (h : i ≠ j) :
    (s.modGroup i f).group j = s.group j := by
  cases hg : s.group i with
  | none => rw [modGroup_free f hg]
  | some g => rw [modGroup_eq f hg, group_setSlot_ne s _ h]

@[simp] theorem group_mark (s : State) (i j : SlotId) : (s.mark i).group j = s.group j := by
  by_cases h : i = j
  · subst h; simp [State.group, State.mark]
  · exact group_setSlot_ne s _ h

@[simp] theorem changed_mark (s : State) (i : SlotId) : ((s.mark i).slot i).changed = true := by simp [State.mark]

theorem slot_mark_ne (s : State) {i j : SlotId} (h : i ≠ j) : (s.mark i).slot j = s.slot j := slot_setSlot_ne s _ h

theorem slot_modGroup_ne (s : State) {i j : SlotId} (f : Group → Group) (h : i ≠ j) :
    (s.modGroup i f).slot j = s.slot j := by
  cases hg : s.group i with
  | none => rw [modGroup_free f hg]
  | some g => rw [modGroup_eq f hg, slot_setSlot_ne s _ h]

@[simp] theorem changed_modGroup (s : State) (i j : SlotId) (f : Group → Group) :
    ((s.modGroup i f).slot j).changed = (s.slot j).changed := by
  by_cases h : i = j
  · subst h
    cases hg : s.group i with
    | none => rw [modGroup_free f hg]
    | some g => simp [modGroup_eq f hg]
  · rw [slot_modGroup_ne s f h]

@[simp] theorem group_tick (s : State) (t : Instant) (i : SlotId) : (s.tick t).group i = s.group i := rfl

@[simp] theorem slot_tick (s : State) (t : Instant) (i : SlotId) : (s.tick t).slot i = s.slot i := rfl

@[simp] theorem group_modChan (s : State) (c : Chan) (f : Channel → Channel) (i : SlotId) :
    (s.modChan c f).group i = s.group i := rfl

@[simp] theorem group_setChan (s : State) (c : Chan) (v : Channel) (i : SlotId) :
    (s.setChan c v).group i = s.group i := rfl

@[simp] theorem group_raise (s : State) (c : Chan) (src : Source) (k : ReqKind) (b : ReqBody) (i : SlotId) :
    (s.raise c src k b).group i = s.group i := rfl

@[simp] theorem group_withdraw (s : State) (c : Chan) (src : Source) (k : ReqKind) (i : SlotId) :
    (s.withdraw c src k).group i = s.group i := rfl

@[simp] theorem group_orphanOn (s : State) (c : Chan) (i j : SlotId) (p : Frame → Bool) :
    (s.orphanOn c i p).group j = s.group j := rfl

@[simp] theorem group_channelFrame (s : State) (c : Chan) (b : ChannelBody) (r : Radio) (n : Nat) (i : SlotId) :
    (s.channelFrame c b r n).group i = s.group i := rfl

@[simp] theorem group_dropEntry (s : State) (r : Radio) (i : SlotId) : (s.dropEntry r).group i = s.group i := rfl

@[simp] theorem group_appendEntry (s : State) (e : RegEntry) (i : SlotId) : (s.appendEntry e).group i = s.group i := rfl

@[simp] theorem group_attend (s : State) (x : AttnItem) (i : SlotId) : (s.attend x).group i = s.group i := rfl

@[simp] theorem entry_tick (s : State) (t : Instant) (r : Radio) : (s.tick t).entry r = s.entry r := rfl

@[simp] theorem memberPlace_tick (s : State) (t : Instant) (r : Radio) : (s.tick t).memberPlace r = s.memberPlace r := rfl

/-- R20: the slot that an opening takes is FREE. -/
theorem freeSlot_free {s : State} {i : SlotId} (h : s.freeSlot = some i) : s.group i = none := by
  have := List.find?_some h
  simpa using this

/-- R12: a radio's group position names a slot that holds a group in which it has that role. -/
theorem memberPlace_spec {s : State} {r : Radio} {i : SlotId} {role : Role} (h : s.memberPlace r = some (i, role)) :
    ∃ g, s.group i = some g ∧ g.roleOf r = some role := by
  unfold State.memberPlace at h
  obtain ⟨j, _, hj⟩ := List.exists_of_findSome?_eq_some h
  cases hg : s.group j with
  | none => simp [hg] at hj
  | some g =>
    cases hr : g.roleOf r with
    | none => simp [hg, hr] at hj
    | some x => simp [hg, hr] at hj; exact ⟨g, by rw [← hj.1]; exact hg, by rw [← hj.2]; exact hr⟩

/-- R12: an entry found for a radio is that radio's and stands in the table. -/
theorem entry_spec {s : State} {r : Radio} {e : RegEntry} (h : s.entry r = some e) : e ∈ s.table ∧ e.radio = r := by
  refine ⟨List.mem_of_find?_eq_some h, ?_⟩
  have := List.find?_some h
  simpa using this

end Sys2Proof.Machine.Laws
end

