-- ==== Sys2Proof/Laws/Sets.lean ====
section
/-! SUPPORT. The sets and the queues: raising and withdrawing requests (R128), the notice queues (R48, R135), halt-cause
sets (R76), the attention set (R181). -/

namespace Sys2Proof.Machine.Laws

variable {α : Type}

theorem mem_insertBy {key : α → Nat} {x y : α} {l : List α} (h : y ∈ insertBy key x l) : y = x ∨ y ∈ l := by
  induction l with
  | nil => simpa [insertBy] using h
  | cons z zs ih =>
    unfold insertBy at h
    split at h
    · simpa using h
    · split at h
      · rcases List.mem_cons.1 h with h | h
        · exact .inl h
        · exact .inr (List.mem_cons_of_mem _ h)
      · rcases List.mem_cons.1 h with h | h
        · exact .inr (h ▸ List.mem_cons_self ..)
        · exact (ih h).imp id (List.mem_cons_of_mem _)

theorem insertBy_self {key : α → Nat} {x : α} {l : List α} : x ∈ insertBy key x l := by
  induction l with
  | nil => simp [insertBy]
  | cons z zs ih =>
    unfold insertBy
    split
    · simp
    · split
      · simp
      · exact List.mem_cons_of_mem _ ih

/-- An insertion keeps a list in strictly rising order of its keys. -/
theorem insertBy_sorted {key : α → Nat} {x : α} {l : List α} (h : l.Pairwise fun a b => key a < key b) :
    (insertBy key x l).Pairwise fun a b => key a < key b := by
  induction l with
  | nil => simp [insertBy]
  | cons z zs ih =>
    have hz := List.pairwise_cons.1 h
    unfold insertBy
    split
    · next hlt =>
      refine List.pairwise_cons.2 ⟨fun y hy => ?_, h⟩
      rcases List.mem_cons.1 hy with rfl | hy
      · exact hlt
      · exact hlt.trans (hz.1 y hy)
    · split
      · next heq => exact List.pairwise_cons.2 ⟨fun y hy => heq ▸ hz.1 y hy, hz.2⟩
      · next hlt hne =>
        refine List.pairwise_cons.2 ⟨fun y hy => ?_, ih hz.2⟩
        rcases mem_insertBy hy with rfl | hy
        · omega
        · exact hz.1 y hy

/-- An element with another key stays. -/
theorem mem_insertBy_of_ne {key : α → Nat} {x y : α} {l : List α} (h : y ∈ l) (hne : key x ≠ key y) :
    y ∈ insertBy key x l := by
  induction l with
  | nil => cases h
  | cons z zs ih =>
    unfold insertBy
    split
    · exact List.mem_cons_of_mem _ h
    · split
      · next heq =>
        rcases List.mem_cons.1 h with rfl | h
        · exact absurd heq hne
        · exact List.mem_cons_of_mem _ h
      · rcases List.mem_cons.1 h with rfl | h
        · simp
        · exact List.mem_cons_of_mem _ (ih h)

/-- R128: a withdrawal keeps the order of the set. -/
theorem reqsWithdraw_sorted {l : List Request} {src : Source} {k : ReqKind}
    (h : l.Pairwise fun a b => a.key < b.key) : (reqsWithdraw src k l).Pairwise fun a b => a.key < b.key :=
  h.filter _

/-- R128: a withdrawn request has left the set, and every other request stays. -/
theorem mem_reqsWithdraw {l : List Request} {src : Source} {k : ReqKind} {r : Request} :
    r ∈ reqsWithdraw src k l ↔ r ∈ l ∧ ¬ (r.source = src ∧ r.kind = k) := by
  simp [reqsWithdraw, List.mem_filter]; tauto

/-- The keys of two requests agree exactly when their sources and kinds do. -/
theorem key_inj {r q : Request} : r.key = q.key ↔ r.source = q.source ∧ r.kind = q.kind := by
  have hk : ∀ a b : ReqKind, a.place = b.place → a = b := by intro a b; cases a <;> cases b <;> simp [ReqKind.place]
  have hb : ∀ a : ReqKind, a.place < 12 := by intro a; cases a <;> simp [ReqKind.place]
  constructor
  · intro h
    unfold Request.key at h
    have h1 := hb r.kind
    have h2 := hb q.kind
    have hp : r.kind.place = q.kind.place := by omega
    have hs : r.source.place = q.source.place := by omega
    refine ⟨?_, hk _ _ hp⟩
    cases ha : r.source with
    | channel =>
      cases hc : q.source with
      | channel => rfl
      | phase p => simp [ha, hc, Source.place] at hs
    | phase p =>
      cases hc : q.source with
      | channel => simp [ha, hc, Source.place] at hs
      | phase p' => simp [ha, hc, Source.place] at hs; rw [Fin.ext hs]
  · rintro ⟨h1, h2⟩; simp [Request.key, h1, h2]

/-- R48, R135: a notice queue never grows past four. -/
theorem pushNotice_length (q : List α) (x : α) : (pushNotice q x).length ≤ 4 ∨ q.length < 4 := by
  simp [pushNotice]; omega

theorem pushNotice_bound (q : List α) (x : α) : (pushNotice q x).length ≤ 4 := by
  simp [pushNotice]; omega

/-- R48: a queue of fewer than four takes the notice at its tail. -/
theorem pushNotice_room {q : List α} (x : α) (h : q.length < 4) : pushNotice q x = q ++ [x] := by
  have : q.length + 1 - 4 = 0 := by omega
  simp [pushNotice, this]

theorem putBack_bound {q : List α} (x : α) (h : q.length ≤ 4) : (putBack q x).length ≤ 4 := by
  unfold putBack; split
  · simp; omega
  · exact h

/-! ### Halt-cause sets -/

@[simp] theorem has_put_self (s : Causes) (c : Cause) (b : Bool) : (s.put c b).has c = b := by cases c <;> rfl

theorem has_put_ne (s : Causes) {c d : Cause} (b : Bool) (h : c ≠ d) : (s.put c b).has d = s.has d := by
  cases c <;> cases d <;> first | rfl | exact absurd rfl h

@[simp] theorem has_union (s t : Causes) (c : Cause) : (s.union t).has c = (s.has c || t.has c) := by cases c <;> rfl

/-- Two halt-cause sets with the same causes are equal. -/
theorem causes_ext {s t : Causes} (h : ∀ c, s.has c = t.has c) : s = t := by
  have h1 := h .locoLink
  have h2 := h .leaderLink
  have h3 := h .area
  have h4 := h .overspeed
  have h5 := h .stopUnconfirmed
  have h6 := h .starved
  have h7 := h .control
  have h8 := h .releaseLost
  cases s; cases t
  simp [Causes.has] at h1 h2 h3 h4 h5 h6 h7 h8
  simp [*]

theorem isEmpty_iff (s : Causes) : s.isEmpty = true ↔ s = {} := by simp [Causes.isEmpty]

end Sys2Proof.Machine.Laws
end

