-- ==== Sys2Proof/Laws/Finish.lean ====
section
/-! SUPPORT. The end of a command: what one settlement does, an induction over all of them, and that a quiet state is left
as it is. -/

namespace Sys2Proof.Machine.Laws

/-- A settlement is the end of a lost sample, an examination of the pairings, or a hand-over of a winner. -/
theorem settleOne_cases {s s' : State} (h : s.settleOne = some s') :
    (∃ c, (s.chan c).sampleLost = true ∧ s' = s.sampleEnds c)
      ∨ (s.examine = true ∧ s' = { s with examine := false }.examinePairings)
      ∨ ∃ c r, s.winner c = some r ∧ s' = s.handOver c r := by
  unfold State.settleOne at h
  split at h
  · next c hc =>
    refine .inl ⟨c, ?_, (Option.some.inj h).symm⟩
    have := List.find?_some hc
    simpa using this
  · split at h
    · next he => exact .inr (.inl ⟨he, (Option.some.inj h).symm⟩)
    · split at h
      · next c r hr =>
        obtain ⟨d, _, hd⟩ := List.exists_of_findSome?_eq_some hr
        cases hw : s.winner d with
        | none => simp [hw] at hd
        | some q =>
          simp [hw] at hd
          obtain ⟨rfl, rfl⟩ := hd
          exact .inr (.inr ⟨_, _, hw, (Option.some.inj h).symm⟩)
      · cases h

/-- A property that the end of a sample, an examination and a hand-over keep is kept by the end of a command. -/
theorem finish_induction {P : State → Prop} (hs : ∀ s c, (s.chan c).sampleLost = true → P s → P (s.sampleEnds c))
    (he : ∀ s, P s → P { s with examine := false }.examinePairings)
    (hh : ∀ s c r, s.winner c = some r → P s → P (s.handOver c r)) {s : State} (h : P s) : P s.finish := by
  suffices ∀ n s, P s → P (State.settle n s) from this 40 s h
  intro n
  induction n with
  | zero => exact fun _ h => h
  | succ n ih =>
    intro s h
    unfold State.settle
    split
    · exact h
    · next s' hs' =>
      rcases settleOne_cases hs' with ⟨c, hc, rfl⟩ | ⟨_, rfl⟩ | ⟨c, r, hw, rfl⟩
      · exact ih _ (hs s c hc h)
      · exact ih _ (he s h)
      · exact ih _ (hh s c r hw h)

/-- Nothing is left to settle exactly in a quiet state. -/
theorem settleOne_none_iff {s : State} : s.settleOne = none ↔ s.Quiet := by
  unfold State.settleOne State.Quiet
  cases s.lostSample with
  | some c => simp
  | none =>
    cases s.examine with
    | true => simp
    | false => cases s.nextHandOver <;> simp

/-- The end of a command leaves a quiet state as it is. -/
theorem finish_of_quiet {s : State} (h : s.Quiet) : s.finish = s := by
  have : s.settleOne = none := settleOne_none_iff.2 h
  simp [State.finish, State.settle, this]

/-- The clock alone makes nothing to settle. -/
theorem quiet_tick {s : State} (t : Instant) (h : s.Quiet) : (s.tick t).Quiet := h

end Sys2Proof.Machine.Laws
end

