-- ==== Sys2Proof/Laws/Host.lean ====
section
/-! SUPPORT. The device's own part of the state (clock, mode, timers, profile, settings in force, line levels, holding
place, queue) is left as it is by everything that acts on channels, groups and radios: one lemma for each shared
operation. -/

namespace Sys2Proof.Machine.Laws

/-- The part of the state that only Mode Control, the Profile Store, the Host Port and the Area Inputs change. -/
def hostPart (s : State) : Instant × DeviceMode × Option Instant × Option Instant × Profile × Bool × Option Profile
    × DeviceSettings × Bool × Bool × Option Response × List Instr :=
  (s.now, s.mode, s.startupExpiry, s.silenceSince, s.profile, s.profileValid, s.storing, s.device, s.areaA, s.areaB,
    s.response, s.pending)

/-- An iteration of operations that keep the device's part keeps it. -/
theorem foldl_host {α : Type} {f : State → α → State} (h : ∀ s a, hostPart (f s a) = hostPart s) (l : List α) (s : State) :
    hostPart (l.foldl f s) = hostPart s := by
  induction l generalizing s with
  | nil => rfl
  | cons a l ih => exact (ih (f s a)).trans (h s a)

/-- Folds over the members, the slots and the channels, each step of which keeps the device's part. -/
theorem ite_host {p : Prop} [Decidable p] {a b : State} {s : State} (ha : hostPart a = hostPart s)
    (hb : hostPart b = hostPart s) : hostPart (if p then a else b) = hostPart s := by
  split
  · exact ha
  · exact hb

/-! ### Named operations -/

@[simp] theorem setChan_host (s : State) (c : Chan) (v : Channel) : hostPart (s.setChan c v) = hostPart s := rfl

@[simp] theorem modChan_host (s : State) (c : Chan) (f : Channel → Channel) : hostPart (s.modChan c f) = hostPart s := rfl

@[simp] theorem setSlot_host (s : State) (i : SlotId) (v : Slot) : hostPart (s.setSlot i v) = hostPart s := rfl

@[simp] theorem mark_host (s : State) (i : SlotId) : hostPart (s.mark i) = hostPart s := rfl

@[simp] theorem attend_host (s : State) (x : AttnItem) : hostPart (s.attend x) = hostPart s := rfl

@[simp] theorem raise_host (s : State) (c : Chan) (src : Source) (k : ReqKind) (b : ReqBody) : hostPart (s.raise c src k b) = hostPart s := rfl

@[simp] theorem withdraw_host (s : State) (c : Chan) (src : Source) (k : ReqKind) : hostPart (s.withdraw c src k) = hostPart s := rfl

@[simp] theorem withdrawSource_host (s : State) (c : Chan) (src : Source) : hostPart (s.withdrawSource c src) = hostPart s := rfl

@[simp] theorem orphanOn_host (s : State) (c : Chan) (i : SlotId) (p : Frame → Bool) : hostPart (s.orphanOn c i p) = hostPart s := rfl

@[simp] theorem takePhase_host (s : State) (c : Chan) (p : Phase) (i : SlotId) : hostPart (s.takePhase c p i) = hostPart s := rfl

@[simp] theorem freePhase_host (s : State) (c : Chan) (p : Phase) : hostPart (s.freePhase c p) = hostPart s := rfl

@[simp] theorem channelFrame_host (s : State) (c : Chan) (b : ChannelBody) (r : Radio) (n : Nat) : hostPart (s.channelFrame c b r n) = hostPart s := rfl

@[simp] theorem channelNotice_host (s : State) (c : Chan) (x : Notice) (r : Radio) (n : Nat) : hostPart (s.channelNotice c x r n) = hostPart s := rfl

@[simp] theorem dropEntry_host (s : State) (r : Radio) : hostPart (s.dropEntry r) = hostPart s := rfl

@[simp] theorem appendEntry_host (s : State) (e : RegEntry) : hostPart (s.appendEntry e) = hostPart s := rfl

@[simp] theorem pin_host (s : State) (r : Radio) (i : SlotId) : hostPart (s.pin r i) = hostPart s := rfl

@[simp] theorem voiceEnds_host (s : State) (c : Chan) : hostPart (s.voiceEnds c) = hostPart s := rfl

@[simp] theorem modSurvey_host (s : State) (c : Chan) (f : Survey → Survey) : hostPart (s.modSurvey c f) = hostPart s := rfl

@[simp] theorem jam_host (s : State) (c : Chan) : hostPart (s.jam c) = hostPart s := rfl

@[simp] theorem stopSurvey_host (s : State) (c : Chan) : hostPart (s.stopSurvey c) = hostPart s := rfl

@[simp] theorem modGroup_host (s : State) (i : SlotId) (f : Group → Group) : hostPart (s.modGroup i f) = hostPart s := by
  unfold State.modGroup
  split <;> rfl

@[simp] theorem groupNotice_host (s : State) (i : SlotId) (n : Notice) (d : NoticeTo) : hostPart (s.groupNotice i n d) = hostPart s := modGroup_host s i _

@[simp] theorem toLeader_host (s : State) (i : SlotId) (n : Notice) : hostPart (s.toLeader i n) = hostPart s := modGroup_host s i _

@[simp] theorem toRadio_host (s : State) (i : SlotId) (r : Radio) (n : Notice) : hostPart (s.toRadio i r n) = hostPart s := modGroup_host s i _

@[simp] theorem orphan_host (s : State) (i : SlotId) (p : Frame → Bool) : hostPart (s.orphan i p) = hostPart s := by
  unfold State.orphan
  exact foldl_host (fun _ _ => orphanOn_host _ _ _ _) _ _

@[simp] theorem unpin_host (s : State) (r : Radio) : hostPart (s.unpin r) = hostPart s := by
  unfold State.unpin
  repeat' split
  all_goals rfl

@[simp] theorem noticeToEntry_host (s : State) (r : Radio) (n : Notice) (k : Nat) : hostPart (s.noticeToEntry r n k) = hostPart s := by
  unfold State.noticeToEntry
  repeat' split
  all_goals simp

@[simp] theorem returnRadio_host (s : State) (r : Radio) (k : RadioKind) (c : Chan) : hostPart (s.returnRadio r k c) = hostPart s := by
  unfold State.returnRadio
  split <;> rfl

/-! ### Links and the talk floor -/

@[simp] theorem removeCause_host (s : State) (i : SlotId) (c : Cause) : hostPart (s.removeCause i c) = hostPart s := by
  unfold State.removeCause
  repeat' split
  all_goals simp

@[simp] theorem judgeWarn_host (s : State) (i : SlotId) : hostPart (s.judgeWarn i) = hostPart s := by
  unfold State.judgeWarn
  repeat' split
  all_goals simp

@[simp] theorem refresh_host (s : State) (i : SlotId) (r : Radio) : hostPart (s.refresh i r) = hostPart s := by
  unfold State.refresh
  repeat' split
  all_goals simp only [judgeWarn_host, removeCause_host]
  all_goals first | rfl | simp

@[simp] theorem presence_host (s : State) (i : SlotId) (r : Radio) : hostPart (s.presence i r) = hostPart s := by
  unfold State.presence
  simp

@[simp] theorem grantFloor_host (s : State) (c : Chan) (r : Radio) : hostPart (s.grantFloor c r) = hostPart s := by
  unfold State.grantFloor
  repeat' split
  all_goals simp

@[simp] theorem passQueue_host (s : State) (c : Chan) (l : List Radio) : hostPart (s.passQueue c l) = hostPart s := by
  induction l generalizing s with
  | nil => rfl
  | cons r l ih =>
    unfold State.passQueue
    split
    · simp
    · exact ih s

@[simp] theorem passFloor_host (s : State) (c : Chan) : hostPart (s.passFloor c) = hostPart s := by
  unfold State.passFloor
  simp

@[simp] theorem clearHolder_host (s : State) (c : Chan) : hostPart (s.clearHolder c) = hostPart s := by
  unfold State.clearHolder
  repeat' split
  all_goals simp

@[simp] theorem endGrant_host (s : State) (c : Chan) : hostPart (s.endGrant c) = hostPart s := by
  unfold State.endGrant
  repeat' split
  all_goals simp

@[simp] theorem withdrawFrom_host (s : State) (r : Radio) : hostPart (s.withdrawFrom r) = hostPart s := foldl_host (fun _ _ => ite_host (endGrant_host _ _) rfl) _ _

@[simp] theorem withdrawGroup_host (s : State) (cs : List Chan) (rs : List Radio) : hostPart (s.withdrawGroup cs rs) = hostPart s := foldl_host (fun _ _ => ite_host (endGrant_host _ _) rfl) _ _

@[simp] theorem clearFloor_host (s : State) (c : Chan) : hostPart (s.clearFloor c) = hostPart s := by
  unfold State.clearFloor
  repeat' split
  all_goals simp

/-! ### HALT -/

@[simp] theorem cancelJoin_host (s : State) (i : SlotId) (b : Bool) : hostPart (s.cancelJoin i b) = hostPart s := by
  unfold State.cancelJoin
  repeat' split
  all_goals simp

@[simp] theorem dropOrder_host (s : State) (i : SlotId) : hostPart (s.dropOrder i) = hostPart s := by
  unfold State.dropOrder
  repeat' split
  all_goals simp

@[simp] theorem discardOrder_host (s : State) (i : SlotId) : hostPart (s.discardOrder i) = hostPart s := by
  unfold State.discardOrder
  repeat' split
  all_goals simp

@[simp] theorem dropApproach_host (s : State) (i : SlotId) : hostPart (s.dropApproach i) = hostPart s := by
  unfold State.dropApproach
  repeat' split
  all_goals simp

@[simp] theorem oldChannelHalt_host (s : State) (i : SlotId) : hostPart (s.oldChannelHalt i) = hostPart s := by
  unfold State.oldChannelHalt
  repeat' split
  all_goals simp

@[simp] theorem haltBeat_host (s : State) (i : SlotId) : hostPart (s.haltBeat i) = hostPart s := by
  unfold State.haltBeat
  repeat' split
  all_goals simp

@[simp] theorem enterHalt_host (s : State) (i : SlotId) : hostPart (s.enterHalt i) = hostPart s := by
  unfold State.enterHalt
  repeat' split
  all_goals simp

@[simp] theorem addCauses_host (s : State) (i : SlotId) (cs : Causes) : hostPart (s.addCauses i cs) = hostPart s := by
  unfold State.addCauses
  repeat' split
  all_goals simp

@[simp] theorem addCause_host (s : State) (i : SlotId) (c : Cause) : hostPart (s.addCause i c) = hostPart s := by
  unfold State.addCause
  simp

@[simp] theorem dropBeat_host (s : State) (i : SlotId) : hostPart (s.dropBeat i) = hostPart s := by
  unfold State.dropBeat
  split
  · rfl
  · dsimp only
    split <;> simp

/-! ### Groups -/

@[simp] theorem completeMove_host (s : State) (i : SlotId) : hostPart (s.completeMove i) = hostPart s := by
  unfold State.completeMove
  repeat' split
  all_goals simp

@[simp] theorem loseCrew_host (s : State) (i : SlotId) (r : Radio) : hostPart (s.loseCrew i r) = hostPart s := by
  unfold State.loseCrew
  simp

@[simp] theorem loseMember_host (s : State) (i : SlotId) (r : Radio) : hostPart (s.loseMember i r) = hostPart s := by
  unfold State.loseMember
  simp

@[simp] theorem settleDeferred_host (s : State) (i : SlotId) : hostPart (s.settleDeferred i) = hostPart s := by
  unfold State.settleDeferred
  split
  · rfl
  · exact foldl_host (fun _ _ => loseMember_host _ _ _) _ _

@[simp] theorem endOldChannel_host (s : State) (i : SlotId) : hostPart (s.endOldChannel i) = hostPart s := by
  unfold State.endOldChannel
  repeat' split
  all_goals simp

@[simp] theorem startRelease_host (s : State) (i : SlotId) : hostPart (s.startRelease i) = hostPart s := by
  unfold State.startRelease
  repeat' split
  all_goals simp

@[simp] theorem holdPairing_host (s : State) (k : Option PairingId) : hostPart (s.holdPairing k) = hostPart s := by
  unfold State.holdPairing
  split <;> rfl

@[simp] theorem withdrawSources_host (s : State) (g : Group) : hostPart (s.withdrawSources g) = hostPart s := by
  unfold State.withdrawSources
  repeat' split
  all_goals simp

@[simp] theorem freePhases_host (s : State) (g : Group) : hostPart (s.freePhases g) = hostPart s := by
  unfold State.freePhases
  repeat' split
  all_goals simp

@[simp] theorem examine_host (s : State) (b : Bool) : hostPart { s with examine := b } = hostPart s := rfl

@[simp] theorem retire_host (s : State) (i : SlotId) (o : SlotOutcome) : hostPart (s.retire i o) = hostPart s := by
  unfold State.retire
  split
  · rfl
  · simp only [examine_host]
    refine (ite_host (holdPairing_host _ _) rfl).trans ?_
    simp only [setSlot_host, freePhases_host]
    refine (foldl_host (fun _ _ => returnRadio_host _ _ _ _) _ _).trans ?_
    simp

@[simp] theorem openGroup_host (s : State) (o : Opening) (i : SlotId) (c : Chan) (p : Phase) : hostPart (s.openGroup o i c p) = hostPart s := by
  unfold State.openGroup
  refine ite_host ?_ ?_ <;> simp

@[simp] theorem tryPairing_host (s : State) (k : PairingId) : hostPart (s.tryPairing k) = hostPart s := by
  unfold State.tryPairing
  dsimp only
  repeat' split
  all_goals first | rfl | simp

@[simp] theorem examinePairings_host (s : State)  : hostPart (s.examinePairings) = hostPart s := by
  unfold State.examinePairings
  exact ite_host (foldl_host tryPairing_host _ _) rfl

/-! ### Approach and survey -/

@[simp] theorem adviseEase_host (s : State) (i : SlotId) (g : Group) (v d n : Nat) : hostPart (s.adviseEase i g v d n) = hostPart s := by
  unfold State.adviseEase
  simp

@[simp] theorem clearLatch_host (s : State) (i : SlotId) (g : Group) : hostPart (s.clearLatch i g) = hostPart s := by
  unfold State.clearLatch
  simp

@[simp] theorem approachOutcome_host (s : State) (i : SlotId) (g : Group) (a : Approach) (x v d : Nat) (m : Motion) : hostPart (s.approachOutcome i g a x v d m) = hostPart s := by
  unfold State.approachOutcome
  repeat' split
  all_goals simp

@[simp] theorem approachCheck_host (s : State) (i : SlotId) (x o : Nat) (m : Motion) : hostPart (s.approachCheck i x o m) = hostPart s := by
  unfold State.approachCheck
  dsimp only
  repeat' split
  all_goals simp

@[simp] theorem approachOnConfirm_host (s : State) (i : SlotId) (o : Order) (n : Nat) : hostPart (s.approachOnConfirm i o n) = hostPart s := by
  unfold State.approachOnConfirm
  repeat' split
  all_goals simp

@[simp] theorem unjam_host (s : State) (c : Chan) : hostPart (s.unjam c) = hostPart s := by
  unfold State.unjam
  simp only [examine_host]
  refine (foldl_host (fun s i => ?_) _ _).trans rfl
  split
  · rfl
  · exact ite_host (settleDeferred_host _ _) rfl

@[simp] theorem judgeJam_host (s : State) (c : Chan) (r : SurveyResult) : hostPart (s.judgeJam c r) = hostPart s := by
  unfold State.judgeJam
  repeat' split
  all_goals simp

@[simp] theorem concludeSurvey_host (s : State) (c : Chan) (n : SurveyState) : hostPart (s.concludeSurvey c n) = hostPart s := by
  unfold State.concludeSurvey
  repeat' split
  all_goals simp

@[simp] theorem sampleEnds_host (s : State) (c : Chan) : hostPart (s.sampleEnds c) = hostPart s := by
  unfold State.sampleEnds
  repeat' split
  all_goals simp

@[simp] theorem sampleTaken_host (s : State) (c : Chan) (l p : Nat) : hostPart (s.sampleTaken c l p) = hostPart s := by
  unfold State.sampleTaken
  simp

@[simp] theorem startSurvey_host (s : State) (c : Chan) (x : SurveyState) : hostPart (s.startSurvey c x) = hostPart s := by
  unfold State.startSurvey
  repeat' split
  all_goals simp

@[simp] theorem surveyCycle_host (s : State) (c : Chan) : hostPart (s.surveyCycle c) = hostPart s := by
  unfold State.surveyCycle
  repeat' split
  all_goals simp

@[simp] theorem surveyPhase_host (s : State) (c : Chan) (p : Phase) (t : Instant) : hostPart (s.surveyPhase c p t) = hostPart s := by
  unfold State.surveyPhase
  repeat' split
  all_goals simp

/-! ### The arbiter -/

@[simp] theorem levelZero_host (s : State) (i : SlotId) (g : Group) (r : Radio) (x : Role) : hostPart (s.levelZero i g r x) = hostPart s := by
  unfold State.levelZero
  repeat' split
  all_goals simp

@[simp] theorem countMiss_host (s : State) (i : SlotId) (g : Group) (r : Radio) (x : Role) (n : Nat) : hostPart (s.countMiss i g r x n) = hostPart s := by
  unfold State.countMiss
  dsimp only
  repeat' split
  all_goals simp

@[simp] theorem closeMissed_host (s : State) (i : SlotId) : hostPart (s.closeMissed i) = hostPart s := by
  unfold State.closeMissed
  dsimp only
  repeat' split
  all_goals simp

@[simp] theorem takeRequest_host (s : State) (c : Chan) (r : Request) : hostPart (s.takeRequest c r) = hostPart s := by
  unfold State.takeRequest
  repeat' split
  all_goals simp

@[simp] theorem beforeHandOver_host (s : State) (c : Chan) (r : Request) : hostPart (s.beforeHandOver c r) = hostPart s := by
  unfold State.beforeHandOver
  repeat' split
  all_goals simp

@[simp] theorem handOver_host (s : State) (c : Chan) (r : Request) : hostPart (s.handOver c r) = hostPart s := by
  unfold State.handOver
  simp

@[simp] theorem openWindow_host (s : State) (c : Chan) (i : SlotId) (r : Radio) : hostPart (s.openWindow c i r) = hostPart s := by
  unfold State.openWindow
  repeat' split
  all_goals simp

@[simp] theorem beatDone_host (s : State) (c : Chan) (i : SlotId) (r : Radio) (n : Nat) : hostPart (s.beatDone c i r n) = hostPart s := by
  unfold State.beatDone
  repeat' split
  all_goals simp

@[simp] theorem beatRefused_host (s : State) (i : SlotId) : hostPart (s.beatRefused i) = hostPart s := by
  unfold State.beatRefused
  repeat' split
  all_goals simp

@[simp] theorem waitSent_host (s : State) (i : SlotId) (k : WaitKind) : hostPart (s.waitSent i k) = hostPart s := by
  unfold State.waitSent
  simp

@[simp] theorem waitRefused_host (s : State) (i : SlotId) (k : WaitKind) (x : ReqKind) (b : ReqBody) : hostPart (s.waitRefused i k x b) = hostPart s := by
  unfold State.waitRefused
  repeat' split
  all_goals simp

@[simp] theorem relayReport_host (s : State) (i : SlotId) (n : Nat) (b : Bool) : hostPart (s.relayReport i n b) = hostPart s := by
  unfold State.relayReport
  repeat' split
  all_goals simp

@[simp] theorem oldHaltReport_host (s : State) (c : Chan) (i : SlotId) (x : Source) : hostPart (s.oldHaltReport c i x) = hostPart s := by
  unfold State.oldHaltReport
  repeat' split
  all_goals simp

@[simp] theorem moveRefused_host (s : State) (c : Chan) (i : SlotId) (x : Source) : hostPart (s.moveRefused c i x) = hostPart s := by
  unfold State.moveRefused
  repeat' split
  all_goals simp

@[simp] theorem groupDone_host (s : State) (c : Chan) (i : SlotId) (f : Frame) : hostPart (s.groupDone c i f) = hostPart s := by
  unfold State.groupDone
  repeat' split
  all_goals simp

@[simp] theorem groupRefused_host (s : State) (c : Chan) (i : SlotId) (f : Frame) : hostPart (s.groupRefused c i f) = hostPart s := by
  unfold State.groupRefused
  repeat' split
  all_goals simp

@[simp] theorem channelRefused_host (s : State) (c : Chan) (f : Frame) : hostPart (s.channelRefused c f) = hostPart s := by
  unfold State.channelRefused
  repeat' split
  all_goals simp

@[simp] theorem outcome_host (s : State) (c : Chan) (f : Frame) (b : Bool) : hostPart (s.outcome c f b) = hostPart s := by
  unfold State.outcome
  repeat' split
  all_goals simp

@[simp] theorem report_host (s : State) (c : Chan) (b : Bool) : hostPart (s.report c b) = hostPart s := by
  unfold State.report
  repeat' split
  all_goals simp

/-- The end of a command keeps the device's part. -/
@[simp] theorem finish_host (s : State) : hostPart s.finish = hostPart s :=
  finish_induction (P := fun u => hostPart u = hostPart s) (fun u c _ h => by simpa using h)
    (fun u h => by simpa using h) (fun u c r _ h => by simpa using h) rfl

end Sys2Proof.Machine.Laws
end

