-- ==== Sys2Proof/Laws/Survey.lean ====
section
/-! SUPPORT. What a LEVEL report and a member's CHECK-IN on the old channel of a move do: the cases of the two operations. -/

namespace Sys2Proof.Machine.Laws

/-- R162, R165: a report that answers another request than the outstanding sample's is ignored. -/
theorem takeLevel_late {c : Chan} {a : LevelAnswer} {s : State} (l : Nat)
    (h : ∀ p, (s.chan c).survey.sample ≠ .outstanding p a.requested) : s.takeLevel c l a = s := by
  unfold State.takeLevel
  split
  · next p sent hs => exact if_neg (by rintro rfl; exact h p hs)
  · rfl

/-- R165: the outstanding sample's own report, marked CLEAR. -/
theorem takeLevel_clear {c : Chan} {p : Nat} {x : Instant} {s : State} (l : Nat)
    (h : (s.chan c).survey.sample = .outstanding p x) :
    s.takeLevel c l { mark := .clear, requested := x } = s.sampleTaken c (levelOf l) p := by
  simp [State.takeLevel, h]

/-- R165: the outstanding sample's own report, marked RECEIVING. -/
theorem takeLevel_receiving {c : Chan} {p : Nat} {x : Instant} {s : State} (l : Nat)
    (h : (s.chan c).survey.sample = .outstanding p x) :
    s.takeLevel c l { mark := .receiving, requested := x } = s.sampleEnds c := by
  simp [State.takeLevel, h]

/-- R154: a CHECK-IN on a channel that the group uses and that is not its own is presence only. -/
theorem memberFrame_oldCheckIn {c : Chan} {f : UplinkFrame} {i : SlotId} {role : Role} {act : State → State} {s : State}
    {g : Group} (hg : s.group i = some g) (hu : g.usesChannel c = true) (hc : g.channel ≠ c) :
    s.memberFrame .checkIn c f i role act = s.presence i f.sender := by
  simp [State.memberFrame, hg, hu, Group.oldCheckIn, hc]

/-- R17, R18: a frame of a kind that the role may send, on the group's own channel, is presence and then its kind's. -/
theorem memberFrame_own {k : UplinkKind} {f : UplinkFrame} {i : SlotId} {role : Role} {act : State → State} {s : State}
    {g : Group} (hg : s.group i = some g) (ha : k.allowed role = true) :
    s.memberFrame k g.channel f i role act = (s.presence i f.sender).takeKind k i role f act := by
  simp [State.memberFrame, hg, Group.usesChannel, Group.oldCheckIn, ha]

end Sys2Proof.Machine.Laws
end

