-- ==== Sys2Proof/WellFormed.lean ====
section
/-! DEFINITION. Which commands the lines and the port can carry: every field fits its width
(11_line_and_port_formats.md), and a malformed frame is one that R184's step 1 turns away. The step does not ask for it:
a field past its width is read as its number. -/

namespace Sys2Proof

/-- A one-byte field. -/
def fitsByte (n : Nat) : Bool := n < 256

/-- A two-byte field. -/
def fitsWord (n : Nat) : Bool := n < 65536

/-- A three-byte field. -/
def fitsThree (n : Nat) : Bool := n < 16777216

/-- Every field of an uplink record fits. -/
def UplinkFrame.wellFormed (f : UplinkFrame) : Bool :=
  fitsByte f.level && fitsThree f.sender && fitsByte f.declared && fitsByte f.motion && fitsWord f.speed
    && fitsWord f.odometer && fitsByte f.orderKind && fitsByte f.argument && fitsByte f.sequence && fitsThree f.named
    && fitsByte f.call

/-- The selector byte and the number byte fit. -/
def GroupField.wellFormed (g : GroupField) : Bool := fitsByte g.selector && fitsByte g.number

/-- OPEN's fields fit. -/
def OpenArgs.wellFormed (a : OpenArgs) : Bool :=
  fitsByte a.call && fitsThree a.loco && fitsThree a.leader && fitsByte a.channel && fitsByte a.area
    && fitsWord a.wagon && fitsByte a.gate

/-- SET-CHANNEL's fields fit. -/
def SetChannelArgs.wellFormed (a : SetChannelArgs) : Bool :=
  fitsByte a.channel && fitsWord a.mask && fitsByte a.jamOn && fitsByte a.jamOff && fitsByte a.blank
    && fitsByte a.survey && fitsWord a.answerWindow && fitsByte a.talkWindow && fitsByte a.floor
    && fitsByte a.defaultArea && fitsWord a.period && fitsByte a.mode

/-- SET-DEVICE's fields fit. -/
def SetDeviceArgs.wellFormed (a : SetDeviceArgs) : Bool :=
  fitsWord a.mask && fitsByte a.warn && fitsWord a.regExpiry && fitsByte a.joinTimeout && fitsWord a.ackTimeout
    && fitsByte a.moveWindow && fitsByte a.bandShift && fitsByte a.easeTol && fitsByte a.haltExcess
    && fitsByte a.silence && fitsByte a.startup && fitsByte a.policy

/-- SET-PAIRING's fields fit. -/
def SetPairingArgs.wellFormed (a : SetPairingArgs) : Bool :=
  fitsByte a.index && fitsByte a.call && fitsThree a.loco && fitsThree a.leader && fitsByte a.channel
    && fitsByte a.area

/-- The fixed lengths of the command frames (11, "Host port frames"); LOAD-CURVE, code 20, has none. -/
def fixedLength : Nat → Option Nat
  | 1 => some 3
  | 2 => some 3
  | 3 => some 3
  | 4 => some 3
  | 5 => some 3
  | 6 => some 5
  | 7 => some 7
  | 8 => some 4
  | 9 => some 15
  | 10 => some 5
  | 11 => some 5
  | 12 => some 6
  | 13 => some 6
  | 14 => some 5
  | 15 => some 3
  | 16 => some 5
  | 17 => some 4
  | 18 => some 18
  | 19 => some 18
  | 21 => some 13
  | 22 => some 3
  | 23 => some 6
  | _ => none

/-- R184, step 1: a frame that a transaction of `n` bytes carries is malformed: its code names no command, or its header
states another length than its command's, or the transaction ends before the stated length. -/
def malformedHeader (n code stated : Nat) : Bool :=
  match fixedLength code with
  | some k => stated != k || n < stated
  | none => true

/-- Whether a line or the port can carry a command. -/
def Instr.wellFormed : Instr → Bool
  | .checkIn _ _ f => f.wellFormed
  | .answer _ _ f => f.wellFormed
  | .statusFrame _ _ f => f.wellFormed
  | .order _ _ f => f.wellFormed
  | .orderAck _ _ f => f.wellFormed
  | .haltAck _ _ f => f.wellFormed
  | .attachAck _ _ f => f.wellFormed
  | .releaseAck _ _ f => f.wellFormed
  | .talkReq _ _ f => f.wellFormed
  | .talkEnd _ _ f => f.wellFormed
  | .join _ _ f => f.wellFormed
  | .admitFrame _ _ f => f.wellFormed
  | .refuse _ _ f => f.wellFormed
  | .leave _ _ f => f.wellFormed
  | .hand _ _ f => f.wellFormed
  | .resume _ _ f => f.wellFormed
  | .disbandFrame _ _ f => f.wellFormed
  | .txDone _ _ => true
  | .txRefused _ _ => true
  | .ready _ _ => true
  | .notReady _ _ => true
  | .levelReport _ _ level _ => fitsByte level
  | .phaseInstant _ _ _ => true
  | .cycleStart _ _ _ => true
  | .answerWindowExpiry _ _ => true
  | .registrationExpiry _ r => fitsThree r
  | .joinTimeout _ _ => true
  | .attachTimeout _ _ => true
  | .releaseTimeout _ _ => true
  | .orderTimeout _ _ => true
  | .talkWindowExpiry _ _ => true
  | .moveWindowExpiry _ _ => true
  | .startupTimerExpiry _ => true
  | .hostSilenceExpiry _ => true
  | .storeCompletion _ => true
  | .samplingMoment _ _ => true
  | .sampleDeadline _ _ => true
  | .areaAsserted _ _ => true
  | .areaReleased _ _ => true
  | .powerReset _ _ _ => true
  | .lineReset _ _ _ => true
  | .fillerTransaction _ _ => true
  | .malformedFrame _ n code stated => fitsByte code && fitsWord stated && code != 0 && malformedHeader n code stated
  | .beginOperate _ _ => true
  | .reconnect _ _ => true
  | .resetCommand _ _ => true
  | .status _ _ => true
  | .poll _ _ => true
  | .readGroup _ _ g => g.wellFormed
  | .readReg _ _ selector number => fitsByte selector && fitsThree number
  | .surveyRead _ _ channel => fitsByte channel
  | .openGroup _ _ a => a.wellFormed
  | .disband _ _ g => g.wellFormed
  | .retire _ _ g => g.wellFormed
  | .moveGroup _ _ g target => g.wellFormed && fitsByte target
  | .setArea _ _ g area => g.wellFormed && fitsByte area
  | .haltGroup _ _ g => g.wellFormed
  | .allHalt _ _ => true
  | .releaseHalt _ _ g => g.wellFormed
  | .floorClear _ _ channel => fitsByte channel
  | .setChannel _ _ a => a.wellFormed
  | .setDevice _ _ a => a.wellFormed
  | .loadCurve _ _ first count values => fitsByte first && fitsByte count && values.all fitsWord
  | .setPairing _ _ a => a.wellFormed
  | .store _ _ => true
  | .clearAttention _ _ mask => fitsThree mask

end Sys2Proof
end

