-- ==== Sys2Proof/Tests/Slice0.lean ====
section
/-! SUPPORT. Tests: the smoke test of the well-formedness checks, the manual's worked cases, and for every obligation with
hypotheses a concrete state and operands that meet them (`witness_…`). -/

namespace Sys2Proof.Tests

open Sys2Proof Sys2Proof.Machine

/-! ### States to test on -/

/-- An ACTIVE group 7 in slot 0: loco 11, leader 12, crew 13, on phase 0 of channel 0. -/
def group7 : Machine.Group where
  call := 7
  state := .active
  channel := 0
  phase := 0
  area := .none
  wagon := 150
  gate := true
  loco := { radio := 11, level := 7, motion := .standing, speed := some 0, odometer := some 65500 }
  leader := { radio := 12, level := 7 }
  crew := [{ radio := 13, level := 7 }]
  position := 0
  pointer := none
  window := none
  dropped := 0
  causes := {}
  wait := none
  order := none
  lastConfirmed := none
  unconfirmed := none
  approach := none
  join := none
  move := none
  finalHalt := none
  notices := []
  pairing := none

/-- A LIVE channel with its survey off; slot 0 holds its phase 0. -/
def live (occupied : Bool) : Channel :=
  { Channel.afterReset builtinChannel 0 with
    mode := .live
    epoch := some 0
    occupancy := if occupied then (Vector.replicate 8 none).set 0 (some 0) else Vector.replicate 8 none
    config := { builtinChannel.config with survey := false } }

/-- The controller in OPERATE with channels 0 and 1 LIVE, both lines NOT READY, and one group. -/
def holding (g : Machine.Group) : State :=
  { ((State.reset.setChan 0 (live true)).setChan 1 (live false)).setSlot 0 { changed := false, body := .held g } with
    mode := .operate
    startupExpiry := none
    silenceSince := some 0 }

/-- The same with registered radios. -/
def registered (g : Machine.Group) (l : List RegEntry) : State := { holding g with table := l }

/-- A handset and a loco on channel 0. -/
def handset21 : RegEntry := { radio := 21, kind := .handset, channel := 0, level := 9, lastHeard := 0, pinned := none }

def loco22 : RegEntry := { radio := 22, kind := .loco, channel := 0, level := 9, lastHeard := 0, pinned := none }

/-- A valid record from a radio. -/
def frame (r : Radio) : UplinkFrame where
  integrity := .pass
  kindListed := true
  level := 40
  sender := r
  declared := 0
  motion := 0
  speed := 0
  odometer := 65500
  orderKind := 0
  argument := 0
  sequence := 0
  named := 0
  call := 7

/-- The next state of a command. -/
def after (i : Instr) (s : State) : Option State :=
  match exec i s with
  | .next u => some u
  | .fault _ => none
  | .refused _ => none

theorem arrives_of {s : State} {c : Chan} {f : UplinkFrame}
    (h : f.integrity = .pass ∧ f.kindListed = true ∧ (f.sender ≠ 0 ∧ f.sender ≠ 16777215) ∧ (s.chan c).mode = .live) :
    Arrives s c f := ⟨h.1, h.2.1, h.2.2.1, h.2.2.2⟩

theorem fromUnknown_of {s : State} {c : Chan} {f : UplinkFrame} (ha : Arrives s c f)
    (h : s.entry f.sender = none ∧ s.memberPlace f.sender = none) : FromUnknown s c f := ⟨ha, h.1, h.2⟩

theorem fromRegistered_of {s : State} {c : Chan} {f : UplinkFrame} {e : RegEntry} (ha : Arrives s c f)
    (h : s.entry f.sender = some e ∧ e.channel = c) : FromRegistered s c f e := ⟨ha, h.1, h.2⟩

theorem fromMember_of {s : State} {c : Chan} {f : UplinkFrame} {i : SlotId} {r : Role} {g : Machine.Group}
    (ha : Arrives s c f)
    (h : s.entry f.sender = none ∧ s.memberPlace f.sender = some (i, r) ∧ s.group i = some g ∧ g.usesChannel c = true) :
    FromMember s c f i r g := ⟨ha, h.1, h.2.1, h.2.2.1, h.2.2.2⟩

/-! ### Well-formedness: each check refuses an ill-formed term -/

theorem test_wf_frame : (Instr.answer 0 0 (frame 12)).wellFormed = true := by decide

theorem test_wf_level : (Instr.answer 0 0 { frame 12 with level := 256 }).wellFormed = false := by decide

theorem test_wf_sender : (Instr.checkIn 0 0 (frame 16777216)).wellFormed = false := by decide

theorem test_wf_declared : (Instr.checkIn 0 0 { frame 12 with declared := 256 }).wellFormed = false := by decide

theorem test_wf_motion : (Instr.answer 0 0 { frame 12 with motion := 256 }).wellFormed = false := by decide

theorem test_wf_speed : (Instr.answer 0 0 { frame 12 with speed := 65536 }).wellFormed = false := by decide

theorem test_wf_odometer : (Instr.answer 0 0 { frame 12 with odometer := 65536 }).wellFormed = false := by decide

theorem test_wf_order :
    [{ frame 12 with orderKind := 256 }, { frame 12 with argument := 256 }, { frame 12 with sequence := 256 }].map
      (fun f => (Instr.order 0 0 f).wellFormed) = [false, false, false] := by decide

theorem test_wf_named : (Instr.admitFrame 0 0 { frame 12 with named := 16777216 }).wellFormed = false := by decide

theorem test_wf_call : (Instr.join 0 0 { frame 12 with call := 256 }).wellFormed = false := by decide

theorem test_wf_group :
    [GroupField.mk 256 0, GroupField.mk 0 256].map (fun g => (Instr.retire 0 5 g).wellFormed) = [false, false] := by
  decide

theorem test_wf_report : (Instr.levelReport 0 0 256 ⟨.clear, 0⟩).wellFormed = false := by decide

theorem test_wf_registration : (Instr.registrationExpiry 0 16777216).wellFormed = false := by decide

/-- An OPEN of group 8. -/
def open8 : OpenArgs := { call := 8, loco := 22, leader := 21, channel := 0, area := 0, wagon := 150, gate := 0 }

theorem test_wf_open :
    [open8, { open8 with call := 256 }, { open8 with loco := 16777216 }, { open8 with leader := 16777216 },
      { open8 with channel := 256 }, { open8 with area := 256 }, { open8 with wagon := 65536 },
      { open8 with gate := 256 }].map (fun a => (Instr.openGroup 0 15 a).wellFormed)
      = [true, false, false, false, false, false, false, false] := by decide

/-- A SET-CHANNEL of channel 0 that fills no place. -/
def setChannel0 : SetChannelArgs :=
  { channel := 0, mask := 0, jamOn := 0, jamOff := 0, blank := 0, survey := 0, answerWindow := 0, talkWindow := 0,
    floor := 0, defaultArea := 0, period := 0, mode := 0 }

theorem test_wf_channel :
    [setChannel0, { setChannel0 with channel := 256 }, { setChannel0 with mask := 65536 },
      { setChannel0 with jamOn := 256 }, { setChannel0 with jamOff := 256 }, { setChannel0 with blank := 256 },
      { setChannel0 with survey := 256 }, { setChannel0 with answerWindow := 65536 },
      { setChannel0 with talkWindow := 256 }, { setChannel0 with floor := 256 },
      { setChannel0 with defaultArea := 256 }, { setChannel0 with period := 65536 },
      { setChannel0 with mode := 256 }].map (fun a => (Instr.setChannel 0 18 a).wellFormed)
      = true :: List.replicate 12 false := by decide

/-- A SET-DEVICE that fills no place. -/
def setDevice0 : SetDeviceArgs :=
  { mask := 0, warn := 0, regExpiry := 0, joinTimeout := 0, ackTimeout := 0, moveWindow := 0, bandShift := 0,
    easeTol := 0, haltExcess := 0, silence := 0, startup := 0, policy := 0 }

theorem test_wf_device :
    [setDevice0, { setDevice0 with mask := 65536 }, { setDevice0 with warn := 256 },
      { setDevice0 with regExpiry := 65536 }, { setDevice0 with joinTimeout := 256 },
      { setDevice0 with ackTimeout := 65536 }, { setDevice0 with moveWindow := 256 },
      { setDevice0 with bandShift := 256 }, { setDevice0 with easeTol := 256 }, { setDevice0 with haltExcess := 256 },
      { setDevice0 with silence := 256 }, { setDevice0 with startup := 256 },
      { setDevice0 with policy := 256 }].map (fun a => (Instr.setDevice 0 18 a).wellFormed)
      = true :: List.replicate 12 false := by decide

/-- A SET-PAIRING of pairing 3. -/
def setPairing3 : SetPairingArgs := { index := 3, call := 9, loco := 22, leader := 21, channel := 0, area := 0 }

theorem test_wf_pairing :
    [setPairing3, { setPairing3 with index := 256 }, { setPairing3 with call := 256 },
      { setPairing3 with loco := 16777216 }, { setPairing3 with leader := 16777216 },
      { setPairing3 with channel := 256 }, { setPairing3 with area := 256 }].map
      (fun a => (Instr.setPairing 0 13 a).wellFormed) = true :: List.replicate 6 false := by decide

theorem test_wf_curve :
    [Instr.loadCurve 0 7 0 1 [400], .loadCurve 0 7 256 1 [400], .loadCurve 0 7 0 256 [400],
      .loadCurve 0 7 0 1 [65536]].map Instr.wellFormed = [true, false, false, false] := by decide

theorem test_wf_fields :
    [Instr.moveGroup 0 6 (GroupField.mk 0 0) 256, .setArea 0 6 (GroupField.mk 0 0) 256, .readReg 0 7 256 0,
      .readReg 0 7 0 16777216, .surveyRead 0 4 256, .floorClear 0 4 256, .clearAttention 0 6 16777216].map
      Instr.wellFormed = List.replicate 7 false := by decide

/-- A malformed frame is one: POLL's header states 3 bytes in a transaction of 3. -/
theorem test_wf_malformed :
    [Instr.malformedFrame 0 3 77 3, .malformedFrame 0 2 5 3, .malformedFrame 0 9 5 4, .malformedFrame 0 3 5 3,
      .malformedFrame 0 3 0 3, .malformedFrame 0 3 256 3, .malformedFrame 0 3 5 65536].map Instr.wellFormed
      = [true, true, true, false, false, false, false] := by decide

/-! ### The manual's worked cases (05, "Worked cases: the computation at its limits") -/

/-- A curve with three entries named. -/
def curveWith (c5 c6 c30 c31 : Nat) : Vector Nat 32 :=
  Vector.ofFn fun i => if i = 5 then c5 else if i = 6 then c6 else if i = 30 then c30 else if i = 31 then c31 else 0

theorem test_wrap : (travelled 100 65500, remaining { d0 := 900, ref := 65500, latch := false } 100) = (136, 764) := by
  decide

theorem test_rising_segment : permittedSpeed (curveWith 60 70 0 0) 7 764 = 69 := by decide

theorem test_falling_segment : permittedSpeed (curveWith 60 50 0 0) 7 764 = 51 := by decide

theorem test_backward : travelled 65400 65500 = 0 := by decide

theorem test_overrun : remaining { d0 := 900, ref := 65500, latch := false } 1000 = 0 := by decide

theorem test_last_band :
    (permittedSpeed (curveWith 0 0 40 120) 4 9300, permittedSpeed (curveWith 0 0 40 120) 4 495) = (120, 115) := by decide

/-- R123's built-in table: C[21] is 240, C[22] and C[31] are 250. -/
theorem test_builtin_curve :
    (builtinCurve.get 0, builtinCurve.get 21, builtinCurve.get 22, builtinCurve.get 31) = (30, 240, 250, 250) := by decide

/-! ### Single commands -/

/-- R197: a filled slot's read-out takes 67 bytes. -/
theorem test_readout_bytes : ((holding group7).readout 0).bytes.length = 67 := by decide

/-- 05, "Worked sequence: a count-down with EASE and OVERSPEED", at 1900: an advisory, and the latch is set. -/
theorem test_ease_advisory :
    (after (.answer 1900 0 { frame 11 with motion := 1, speed := 78, odometer := 100 })
      { holding { group7 with approach := some { d0 := 900, ref := 65500, latch := false } } with
        device := { builtinDevice with curve := curveWith 60 70 0 0 } }).map
      (fun u => (((u.group 0).bind (·.approach)).map (·.latch), (u.group 0).map (·.notices),
        reqsFind (.phase 0) .ease (u.chan 0).reqs))
      = some (some true, some [{ notice := .overspeedWarning 69 78, dest := .leader }],
          some { source := .phase 0, kind := .ease, body := .ease 69 764 }) := by decide

/-- 05, the worked sequence's order at 3500: STOP PENDING 4. -/
theorem test_stop_pending :
    (after (.order 3500 0 { frame 12 with sequence := 5 })
      (holding { group7 with order := some { order := { kind := .stop, arg := 0, seq := 4 }, expiry := some 4570 } })).map
      (fun u => (u.group 0).map (·.notices)) = some (some [{ notice := .stopPending 4, dest := .leader }]) := by decide

/-- R14: an ANSWER from a radio in no place is discarded. -/
theorem test_unknown_discarded : after (.answer 0 0 (frame 90)) (holding group7) = some (holding group7) := by decide

/-- R17: an ORDER from a crew member is answered NOT ALLOWED. -/
theorem test_crew_order :
    (after (.order 0 0 (frame 13)) (holding group7)).map (fun u => (u.group 0).map (·.notices))
      = some (some [{ notice := .notAllowed, dest := .radio 13 }]) := by decide

/-- R57: the fourth dropped beat adds STARVED. -/
theorem test_starved :
    (after (.phaseInstant 0 0 0) ((holding { group7 with dropped := 3 }).setChan 0
      { live true with reqs := [{ source := .phase 0, kind := .beat, body := .plain }] })).map
      (fun u => (u.group 0).map fun g => (g.state, g.causes)) = some (some (.halt, Causes.single .starved)) := by decide

/-- R133: a READY line takes the pending BEAT, whose target is the loco at position 0. -/
theorem test_beat_handed_over :
    (after (.ready 0 0) ((holding group7).setChan 0
      { live true with reqs := [{ source := .phase 0, kind := .beat, body := .plain }] })).map
      (fun u => ((u.chan 0).reqs, (u.chan 0).inFlight.map (·.content))) = some ([], some (.beat 11 0)) := by decide

/-- R184: a POLL in a transaction of 2 bytes is MALFORMED. -/
theorem test_short_poll :
    (after (.poll 0 2) (holding group7)).map (fun u => u.response.map (·.status)) = some (some .malformed) := by decide

set_option maxRecDepth 20000 in
/-- R195: a warn threshold of 0 is taken as 1 and reported CLAMPED. -/
theorem test_warn_clamped :
    (after (.setDevice 0 18 { setDevice0 with mask := 1 }) (holding group7)).map
      (fun u => (u.device.warn, u.response.map (·.status))) = some (1, some .clamped) := by decide

/-- R197: OPEN with a call number field of 0 is not found. -/
theorem test_open_call_zero :
    (after (.openGroup 0 15 { open8 with call := 0 }) (registered group7 [handset21, loco22])).map
      (fun u => u.response.map (·.status)) = some (some (.refused .notFound)) := by decide

/-- R165: a sample marked RECEIVING is settled with no level. -/
theorem test_receiving :
    (after (.levelReport 0 1 50 ⟨.receiving, 0⟩) ((holding group7).setChan 1
      { live false with survey := { Survey.fresh .running with sample := .outstanding 0 0 } })).map
      (fun u => ((u.chan 1).survey.sample, (u.chan 1).survey.count, (u.chan 1).survey.runMax))
      = some (.none, 0, none) := by decide

/-- A move from phase 0 of channel 1 whose window ends now. -/
def moving (checked : List Radio) : Machine.Group :=
  { group7 with move := some { oldChan := 1, oldPhase := 0, expiry := 9, checked := checked } }

/-- R162, R165: the late report for the skipped sample of instant 0 leaves the sample requested at 100 outstanding. -/
theorem test_late_level :
    (after (.levelReport 101 1 63 ⟨.clear, 0⟩) ((holding group7).setChan 1
      { live false with survey := { Survey.fresh .running with sample := .outstanding 0 100 } })).map
      (fun u => ((u.chan 1).survey.sample, (u.chan 1).survey.count)) = some (.outstanding 0 100, 0) := by decide

/-- Halted for a speed excess in the course of a move. -/
def movingHalted : Machine.Group :=
  { moving [] with state := .halt, causes := Causes.single .overspeed, loco := { group7.loco with motion := .moving } }

/-- R153, R154: the loco's CHECK-IN STANDING on the old channel of a move leaves OVERSPEED and the loco's motion, and does
not check it in. -/
theorem test_old_channel_check_in :
    ((after (.checkIn 5 1 { frame 11 with declared := 1, motion := 0 }) (holding movingHalted)).bind (·.group 0)).map
      (fun g => (g.causes.overspeed, g.loco.motion, g.move.map (·.checked))) = some (true, .moving, some []) := by decide

/-- R18, R79, R153: on the target it does all three. -/
theorem test_target_check_in :
    ((after (.checkIn 5 0 { frame 11 with declared := 1, motion := 0 }) (holding movingHalted)).bind (·.group 0)).map
      (fun g => (g.causes.overspeed, g.loco.motion, g.move.map (·.checked))) = some (false, .standing, some [11]) := by
  decide

/-- 11, "Channel line records": RESTART and REGISTERED carry the channel. -/
theorem test_channel_carried :
    (State.reset.channelFrameOf 3 { source := .channel, kind := .restart, body := .plain }).content = .restart 3
      ∧ (after (.checkIn 5 0 { frame 21 with declared := 0 }) (holding group7)).map (fun u => (u.chan 0).notices)
        = some [{ body := .registered 0, radio := 21, call := 0 }] := by decide

/-- 11, "The group record read-out": READ-GROUP of a group returns 67 bytes behind the header's six. -/
theorem test_read_group_length (v : GroupReadout) (b : Bool) :
    (Response.mk 6 .done false (.readGroup (.group v) b) false).length = 73 := rfl

/-- R179: a POWER reset at instant 0 with both lines released makes the state after reset. -/
theorem test_power_reset : State.reset.resetWith .power false false = State.reset := by decide

/-! ### Witnesses: the invariants -/

theorem exec_of_after {i : Instr} {s u : State} (h : after i s = some u) : exec i s = .next u := by
  unfold after at h
  split at h <;> simp_all

theorem holding_group : ∀ j : SlotId, (holding group7).group j = if j = 0 then some group7 else none := by decide

theorem group7_sound : group7.Sound where
  causes := by intro _; decide
  order := by intro h; exact absurd h (by decide)
  approach := by intro h; exact absurd h (by decide)
  stop := by unfold Group.StopSound; decide
  wait := rfl
  join := by intro h; exact absurd h (by decide)
  move := ⟨fun _ h => absurd h (by simp [group7]), fun _ h => absurd h (by simp [group7])⟩
  size := by simp [Group.SizeSound, group7]

theorem witness_groups_sound : (holding group7).GroupsSound := by
  intro j g h
  rw [holding_group] at h
  split at h
  · cases h; exact group7_sound
  · cases h

theorem witness_warn_sound : (holding group7).WarnSound := by
  intro j g h
  rw [holding_group] at h
  split at h
  · cases h; decide
  · cases h

theorem witness_phases_sound : (holding group7).PhasesSound := by
  have h : ∀ (c : Chan) (p : Phase) (j : SlotId),
      ((holding group7).chan c).occupancy.get p = some j ↔ j = 0 ∧ c = 0 ∧ p = 0 := by decide
  intro c p j
  rw [h, holding_group]
  simp only [Group.holds]
  constructor
  · rintro ⟨rfl, rfl, rfl⟩; exact ⟨group7, rfl, .inl ⟨rfl, rfl⟩⟩
  · rintro ⟨g, hg, hh⟩
    split at hg
    · cases hg; simp [group7] at hh; exact ⟨‹_›, hh.1.symm, hh.2.symm⟩
    · cases hg

theorem witness_radios_sound : (holding group7).RadiosSound where
  onePlace := by decide
  capacity := by decide
  pinned := by intro e h; exact absurd h (by simp [holding, State.setSlot, State.setChan, State.reset])
  joined := by
    intro j r h
    rw [holding_group] at h
    split at h <;> simp [group7] at h

theorem witness_channels_sound : (holding group7).ChannelsSound := by
  have ht : ∀ c, ((holding group7).chan c).talk = none := by decide
  intro c
  exact
    { requests := by have : ∀ c, ((holding group7).chan c).reqs = [] := by decide
                     rw [this c]; exact .nil
      noticeCapacity := by revert c; decide
      queueCapacity := by revert c; decide
      freeFloor := by revert c; decide
      queueDistinct := by revert c; decide
      holderNotQueued := by intro h hh; rw [ht c] at hh; cases hh
      liveEpoch := by revert c; decide
      surveyOff := by revert c; decide
      surveyError := by revert c; decide
      surveyCycle := by revert c; decide }

theorem witness_floors_sound : (holding group7).FloorsSound := by
  have ht : ∀ c, ((holding group7).chan c).talk = none := by decide
  intro c h hh
  rw [ht c] at hh
  cases hh

/-- The same controller with two registered radios, as OPEN asks for. -/
theorem witness_registered_sound :
    (registered group7 [handset21, loco22]).RadiosSound ∧ (registered group7 [handset21, loco22]).FloorsSound := by
  have hg : ∀ j : SlotId, (registered group7 [handset21, loco22]).group j = if j = 0 then some group7 else none := by decide
  have ht : ∀ c, ((registered group7 [handset21, loco22]).chan c).talk = none := by decide
  have hp : ∀ e ∈ (registered group7 [handset21, loco22]).table, e.pinned = none := by decide
  refine ⟨⟨by decide, by decide, ?_, ?_⟩, ?_⟩
  · intro e he i h
    rw [hp e he] at h
    cases h
  · intro j r h
    rw [hg] at h
    split at h <;> simp [group7] at h
  · intro c h hh
    rw [ht c] at hh
    cases hh

theorem builtinDevice_inRange : builtinDevice.InRange := by
  have h : ∀ i, builtinDevice.curve.get i ≤ 400 := by decide
  refine ⟨?_, ?_, ?_, ?_, ?_, ?_, ?_, ?_, ?_, ?_, ?_, ?_, ?_, ?_, ?_, ?_, ?_, ?_, h⟩ <;> decide

theorem builtinProfile_inRange : builtinProfile.InRange := by
  refine ⟨fun c => ?_, builtinDevice_inRange⟩
  unfold ChannelConfig.InRange PeriodInRange
  revert c
  decide

theorem witness_settings_sound : (holding group7).SettingsSound where
  device := builtinDevice_inRange
  channels := by
    have hp : ∀ c, ((holding group7).chan c).pendingPeriod = none := by decide
    have h : ∀ c, ((holding group7).chan c).config.InRange ∧ PeriodInRange ((holding group7).chan c).period := by
      unfold ChannelConfig.InRange PeriodInRange
      decide
    exact fun c => ⟨(h c).1, (h c).2, fun p q => by rw [hp c] at q; cases q⟩
  profile := builtinProfile_inRange
  storing := by intro p h; cases h

theorem witness_device_sound : (holding group7).DeviceSound where
  startup := by decide
  silence := by decide
  store := by decide

theorem witness_quiet : (holding group7).Quiet := by unfold State.Quiet; decide

/-- The queue's front, and a step from each sound state: the hypotheses of the step statement and of every invariant. -/
theorem witness_step :
    ({ holding group7 with pending := [.ready 0 0] } : State).pending = [.ready 0 0]
      ∧ step (holding group7) = .next (holding group7) := ⟨rfl, rfl⟩


/-! ### Witnesses: the whole machine and the computations -/

theorem witness_mode_changes :
    (after (.beginOperate 5 3) State.reset).map (·.mode) = some .operate ∧ State.reset.mode = .startup := by decide

theorem witness_writes :
    (after (.beginOperate 5 3) State.reset).isSome = true
      ∧ (after (.storeCompletion 5) { State.reset with storing := some { builtinProfile with device := { builtinDevice with warn := 4 } } }).any
        (fun u => u.profile != State.reset.profile) = true
      ∧ (after (.setDevice 5 18 { setDevice0 with mask := 128, haltExcess := 40 }) State.reset).any
        (fun u => u.device != State.reset.device) = true
      ∧ (after (.poll 5 3) State.reset).any (fun u => u.response != State.reset.response) = true
      ∧ (after (.areaAsserted 5 .lineA) State.reset).any (fun u => u.areaA != State.reset.areaA) = true := by decide

/-- POLL as the port's command: each reason to turn it away, and BEGIN and RECONNECT by the mode rule. -/
theorem witness_turned_away :
    (portCommand (.poll 5 2)).map (fun k => decide (k.2.1 < k.2.2.length)) = some true
      ∧ (portCommand (.poll 5 3)).map (fun k => (decide (k.2.2.length ≤ k.2.1), k.2.2.duringStore)) = some (true, false)
      ∧ ({ State.reset with storing := some builtinProfile } : State).storing.isSome = true
      ∧ (portCommand (.store 5 3)).map (fun k => k.2.2.rule) = some .notInFallback
      ∧ (portCommand (.openGroup 5 15 open8)).map (fun k => k.2.2.rule) = some .operateAlone
      ∧ (portCommand (.beginOperate 5 3)).map (fun k => k.2.2.rule) = some .beginRule
      ∧ (portCommand (.reconnect 5 3)).map (fun k => k.2.2.rule) = some .reconnectRule
      ∧ State.reset.storing = none ∧ State.reset.mode = .startup ∧ (holding group7).mode = .operate
      ∧ ({ State.reset with mode := .fallback } : State).mode = .fallback := by decide

/-- The last band's lower edge, the band below it at its top, and the lower edge of band 0. -/
theorem witness_permitted_speed :
    31 ≤ 496 / 2 ^ 4 ∧ (30 : Fin 32).val = 495 / 2 ^ 4 ∧ (31 : Fin 32).val = (30 : Fin 32).val + 1
      ∧ (0 : Fin 32).val = 0 / 2 ^ 4 ∧ (1 : Fin 32).val = (0 : Fin 32).val + 1 ∧ 0 % 2 ^ 4 = 0 := by decide

/-- A READY line with a BEAT and a channel-source RESTART pending, and one with nothing pending. -/
def contested : Channel :=
  { live true with
    ready := true
    reqs := [{ source := .channel, kind := .restart, body := .plain }, { source := .phase 0, kind := .beat, body := .plain }] }

theorem witness_chain :
    ((holding group7).setChan 0 contested).chan 0 = contested ∧ contested.mayHandOver = true
      ∧ ((holding group7).setChan 0 contested).winner 0 = some { source := .channel, kind := .restart, body := .plain }
      ∧ ({ live true with ready := true } : Channel).mayHandOver = true
      ∧ ((holding group7).setChan 0 { live true with ready := true }).winner 0 = none := by decide

theorem witness_cause_removal :
    (holding { group7 with state := .halt, causes := Causes.single .area }).group 0
        = some { group7 with state := .halt, causes := Causes.single .area }
      ∧ (Causes.single .area).has .area = true ∧ (Causes.single .area).has .control = false := by decide

theorem witness_attention_line : (after (.powerReset 5 false false) (holding group7)).isSome = true := by decide

/-! ### Witnesses: uplink frames -/

theorem witness_discarded :
    (holding group7).Quiet ∧ ({ frame 12 with integrity := .fail } : UplinkFrame).integrity = .fail
      ∧ ({ frame 12 with kindListed := false } : UplinkFrame).kindListed = false ∧ (frame 0).sender = 0
      ∧ (frame 16777215).sender = 16777215 ∧ ((holding group7).chan 2).mode = .off := ⟨witness_quiet, by decide⟩

/-- Entries for radios 100 and up. -/
def crowd (n : Nat) : List RegEntry := (List.range n).map fun k => { loco22 with radio := 100 + k }

theorem witness_check_in_room :
    radioKindOf (frame 21).declared = some .handset ∧ FromUnknown (registered group7 (crowd 95)) 0 (frame 21)
      ∧ (registered group7 (crowd 95)).table.length < 96 :=
  ⟨by decide, fromUnknown_of (arrives_of (by decide)) (by decide), by decide⟩

theorem witness_check_in_full :
    FromUnknown (registered group7 (crowd 96)) 0 (frame 21) ∧ 96 ≤ (registered group7 (crowd 96)).table.length :=
  ⟨fromUnknown_of (arrives_of (by decide)) (by decide), by decide⟩

theorem witness_check_in_again :
    Arrives (registered group7 [handset21]) 0 (frame 21)
      ∧ (registered group7 [handset21]).entry (frame 21).sender = some handset21 ∧ handset21.pinned = none :=
  ⟨arrives_of (by decide), by decide⟩

theorem from_crew : FromMember (holding group7) 0 (frame 13) 0 .crew group7 :=
  fromMember_of (arrives_of (by decide)) (by decide)

theorem from_leader : FromMember (holding group7) 0 (frame 12) 0 .leader group7 :=
  fromMember_of (arrives_of (by decide)) (by decide)

theorem from_loco : FromMember (holding group7) 0 (frame 11) 0 .loco group7 :=
  fromMember_of (arrives_of (by decide)) (by decide)

theorem witness_answer :
    (holding group7).WarnSound ∧ (holding group7).device.warn < 7
      ∧ FromMember (holding group7) 0 (frame 13) 0 .crew group7 ∧ group7.usesChannel 0 = true
      ∧ FromMember (holding group7) 0 (frame 12) 0 .leader group7 :=
  ⟨witness_warn_sound, by decide, from_crew, by decide, from_leader⟩

theorem witness_loco_report :
    (holding group7).WarnSound ∧ (holding group7).device.warn < 7
      ∧ FromMember (holding group7) 0 (frame 11) 0 .loco group7 ∧ group7.approach = none :=
  ⟨witness_warn_sound, by decide, from_loco, rfl⟩

/-- A group under approach supervision, at rest at its reference: v is C[0] at the end of the distance. -/
def approaching : Machine.Group := { group7 with approach := some { d0 := 0, ref := 65500, latch := false } }

theorem approaching_sound : (holding approaching).GroupsSound := by
  have h : ∀ j : SlotId, (holding approaching).group j = if j = 0 then some approaching else none := by decide
  intro j g hg
  rw [h] at hg
  split at hg
  · cases hg
    exact { group7_sound with approach := fun _ => .inl rfl }
  · cases hg

/-- The excess is 31 over C[0] = 30, one above H. -/
theorem witness_overspeed :
    (holding approaching).GroupsSound ∧ FromMember (holding approaching) 0 { frame 11 with speed := 61 } 0 .loco approaching
      ∧ approaching.approach = some { d0 := 0, ref := 65500, latch := false }
      ∧ ((holding approaching).device.haltExcess : Int)
        < (min 61 400 : Nat) - permittedSpeed (holding approaching).device.curve (holding approaching).device.bandShift
            (0 - travelled 65500 65500) :=
  ⟨approaching_sound, fromMember_of (arrives_of (by decide)) (by decide), rfl, by decide⟩

/-! ### Witnesses: orders -/

/-- The same group with an order in flight. -/
def ordered (k : OrderKind) (a : Nat) (e : Option Instant) : Machine.Group :=
  { group7 with order := some { order := { kind := k, arg := a, seq := 15 }, expiry := e } }

theorem witness_order_taken :
    FromMember (holding group7) 0 { frame 12 with orderKind := 4 } 0 .leader group7
      ∧ (((holding group7).tick 5).presence 0 12).group 0 = some group7 ∧ group7.state = .active ∧ group7.move = none
      ∧ orderKindOf 4 = some .count ∧ group7.order = none
      ∧ (((holding (ordered .stop 0 none)).tick 5).presence 0 12).group 0 = some (ordered .stop 0 none)
      ∧ FromMember (holding (ordered .stop 0 none)) 0 (frame 12) 0 .leader (ordered .stop 0 none)
      ∧ orderKindOf (frame 12).orderKind = some .forward ∧ OrderKind.forward ≠ .stop :=
  ⟨fromMember_of (arrives_of (by decide)) (by decide), by decide, rfl, rfl, rfl, rfl, by decide,
    fromMember_of (arrives_of (by decide)) (by decide), rfl, by decide⟩

/-- A confirmed STOP; a confirmed COUNT of 1 whose speed is the permitted speed for 150 dm, 41. -/
theorem witness_order_confirmed :
    FromMember (holding (ordered .stop 0 (some 9))) 0 { frame 11 with sequence := 15 } 0 .loco (ordered .stop 0 (some 9))
      ∧ ((((holding (ordered .stop 0 (some 9))).tick 5).presence 0 11).locoUpdate 0 { frame 11 with sequence := 15 }).group 0
        = some (ordered .stop 0 (some 9))
      ∧ FromMember (holding (ordered .count 1 (some 9))) 0 { frame 11 with sequence := 31 } 0 .loco (ordered .count 1 (some 9))
      ∧ ((((holding (ordered .count 1 (some 9))).tick 5).presence 0 11).locoUpdate 0
          { frame 11 with sequence := 31 }).group 0 = some (ordered .count 1 (some 9))
      ∧ 31 % 16 = 15 ∧ (ordered .count 1 (some 9)).approach = none
      ∧ (min (frame 11).speed 400 : Nat) ≤ permittedSpeed builtinCurve 7 (1 * 150) ∧ 0 < 1 * 150
      ∧ (holding group7).device.easeTol ≤ (holding group7).device.haltExcess ∧ (frame 11).odometer < 65536 :=
  ⟨fromMember_of (arrives_of (by decide)) (by decide), by decide, fromMember_of (arrives_of (by decide)) (by decide),
    by decide⟩

/-- A halted group with an unconfirmed stop. -/
def stopped : Machine.Group :=
  { group7 with state := .halt, causes := Causes.single .stopUnconfirmed, unconfirmed := some 4 }

theorem witness_halt_acknowledged :
    FromMember (holding stopped) 0 (frame 11) 0 .loco stopped
      ∧ ((((holding stopped).tick 5).presence 0 11).locoUpdate 0 (frame 11)).group 0 = some stopped
      ∧ stopped.approach = none ∧ stopped.causes.stopUnconfirmed = true
      ∧ FromMember (holding group7) 0 (frame 11) 0 .loco group7
      ∧ ((((holding group7).tick 5).presence 0 11).locoUpdate 0 (frame 11)).group 0 = some group7
      ∧ group7.approach = none ∧ group7.causes.stopUnconfirmed = false :=
  ⟨fromMember_of (arrives_of (by decide)) (by decide), by decide, rfl, rfl, from_loco, by decide, rfl, rfl⟩

theorem ordered_stop_sound : (holding (ordered .stop 0 (some 9))).GroupsSound := by
  have h : ∀ j : SlotId, (holding (ordered .stop 0 (some 9))).group j = if j = 0 then some (ordered .stop 0 (some 9)) else none := by
    decide
  intro j g hg
  rw [h] at hg
  split at hg
  · cases hg
    exact { group7_sound with order := fun _ => ⟨.inl rfl, rfl⟩ }
  · cases hg

/-- The expiry itself is late enough. -/
theorem witness_order_times_out :
    (holding (ordered .stop 0 (some 9))).group 0 = some (ordered .stop 0 (some 9)) ∧ 9 ≤ max (holding group7).now 9
      ∧ (holding (ordered .stop 0 (some 9))).GroupsSound
      ∧ (holding (ordered .slow 0 (some 9))).group 0 = some (ordered .slow 0 (some 9)) ∧ OrderKind.slow ≠ .stop :=
  ⟨by decide, by decide, ordered_stop_sound, by decide⟩

/-! ### Witnesses: attachment, release, retirement -/

def opening : Machine.Group := { group7 with state := .opening, crew := [], wait := some { kind := .attach, expiry := none } }

theorem witness_attachment :
    FromMember (holding opening) 0 (frame 11) 0 .loco opening
      ∧ ((((holding opening).tick 5).presence 0 11).odometerUpdate 0 (frame 11)).group 0 = some opening
      ∧ opening.wait = some { kind := .attach, expiry := none } ∧ opening.state = .opening
      ∧ opening.warned (holding opening).device.warn = false :=
  ⟨fromMember_of (arrives_of (by decide)) (by decide), by decide⟩

def releasing (e : Option Instant) : Machine.Group :=
  { group7 with state := .releasing, wait := some { kind := .release, expiry := e } }

/-- With 93 entries in the table the three members fill it. -/
theorem witness_retires :
    (registered (releasing none) (crowd 93)).group 0 = some (releasing none) ∧ (releasing none).join = none
      ∧ (releasing none).move = none ∧ (releasing none).finalHalt = none
      ∧ (∀ c, ((registered (releasing none) (crowd 93)).chan c).talk = none)
      ∧ (registered (releasing none) (crowd 93)).table.length + 2 + (releasing none).crew.length ≤ 96
      ∧ FromMember (registered (releasing none) (crowd 93)) 0 (frame 11) 0 .loco (releasing none)
      ∧ (releasing none).wait = some { kind := .release, expiry := none } :=
  ⟨by decide, rfl, rfl, rfl, by decide, by decide, fromMember_of (arrives_of (by decide)) (by decide), rfl⟩

theorem witness_retires_unattached :
    (holding { opening with wait := some { kind := .attach, expiry := some 9 } }).group 0
        = some { opening with wait := some { kind := .attach, expiry := some 9 } }
      ∧ (∀ c, ((holding { opening with wait := some { kind := .attach, expiry := some 9 } }).chan c).talk = none)
      ∧ 9 ≤ max (holding opening).now 9 := by decide

theorem names_slot_0 (s : State) : NamesGroup s { selector := 0, number := 0 } 0 := .inl ⟨rfl, rfl⟩

/-- By the slot and by the call number. -/
theorem witness_retired_by_host :
    NamesGroup (holding group7) { selector := 0, number := 0 } 0 ∧ NamesGroup (holding group7) { selector := 1, number := 7 } 0
      ∧ (holding group7).group 0 = some group7 ∧ group7.join = none ∧ group7.move = none ∧ group7.finalHalt = none
      ∧ (∀ c, ((holding group7).chan c).talk = none)
      ∧ (holding group7).table.length + 2 + group7.crew.length ≤ 96 ∧ (holding group7).storing = none
      ∧ (holding group7).mode ≠ .fallback :=
  ⟨names_slot_0 _, .inr ⟨rfl, by decide, by decide, by decide⟩, by decide⟩

theorem witness_disband :
    FromMember (holding group7) 0 (frame 12) 0 .leader group7
      ∧ (((holding group7).tick 5).presence 0 12).group 0 = some group7 ∧ group7.disbandable = true ∧ group7.join = none
      ∧ group7.move = none ∧ group7.finalHalt = none ∧ (∀ c, ((holding group7).chan c).talk = none)
      ∧ (holding group7).storing = none ∧ (holding group7).mode ≠ .fallback ∧ (holding group7).group 0 = some group7
      ∧ opening.disbandable = false :=
  ⟨from_leader, by decide⟩

theorem witness_release_lost :
    (holding (releasing (some 9))).group 0 = some (releasing (some 9)) ∧ (releasing (some 9)).state = .releasing
      ∧ (releasing (some 9)).wait = some { kind := .release, expiry := some 9 } ∧ 9 ≤ max (holding group7).now 9 := by
  decide

/-! ### Witnesses: the talk floor -/

/-- The same controller with the floor of channel 0 held. -/
def talking (r : Radio) (q : List Radio) : State :=
  (holding group7).setChan 0 { live true with talk := some { radio := r, expiry := 9 }, talkQueue := q }

theorem witness_talk_request :
    FromMember (holding group7) 0 (frame 13) 0 .crew group7
      ∧ (((holding group7).tick 5).presence 0 13).group 0 = some group7 ∧ group7.state = .active ∧ group7.move = none
      ∧ ((holding group7).chan 0).talk = none
      ∧ FromMember (talking 13 []) 0 (frame 13) 0 .crew group7
      ∧ (((talking 13 []).tick 5).presence 0 13).group 0 = some group7
      ∧ ((talking 13 []).chan 0).talk = some { radio := 13, expiry := 9 }
      ∧ FromMember (talking 12 [31, 32, 33]) 0 (frame 13) 0 .crew group7
      ∧ (((talking 12 [31, 32, 33]).tick 5).presence 0 13).group 0 = some group7
      ∧ ((talking 12 [31, 32, 33]).chan 0).talk = some { radio := 12, expiry := 9 } ∧ 12 ≠ (frame 13).sender
      ∧ (frame 13).sender ∉ ((talking 12 [31, 32, 33]).chan 0).talkQueue
      ∧ ((talking 12 [31, 32, 33]).chan 0).talkQueue.length < 4 :=
  ⟨from_crew, by decide, rfl, rfl, by decide, fromMember_of (arrives_of (by decide)) (by decide), by decide, by decide,
    fromMember_of (arrives_of (by decide)) (by decide), by decide⟩

/-- The window's end at its expiry; FLOOR-CLEAR with a queue. -/
theorem witness_grant_ends :
    FromMember (talking 13 []) 0 (frame 13) 0 .crew group7 ∧ ((talking 13 []).chan 0).talk = some { radio := 13, expiry := 9 }
      ∧ ((talking 13 []).chan 0).talkQueue = [] ∧ 9 ≤ max (talking 13 []).now 9
      ∧ (talking 13 [12]).storing = none ∧ (talking 13 [12]).mode ≠ .fallback
      ∧ ((talking 13 [12]).chan 0).talk = some { radio := 13, expiry := 9 } :=
  ⟨fromMember_of (arrives_of (by decide)) (by decide), by decide⟩

/-- A queue whose first two radios are no members and whose third is; one with no eligible radio; a queued sender. -/
theorem witness_floor_passes :
    ((talking 13 [31, 32, 12]).chan 0).talk = some { radio := 13, expiry := 9 } ∧ 9 ≤ max (talking 13 [31, 32, 12]).now 9
      ∧ ((talking 13 [31, 32, 12]).chan 0).talkQueue = [31, 32] ++ 12 :: []
      ∧ (∀ y ∈ ([31, 32] : List Radio), (talking 13 [31, 32, 12]).talkEligible 0 y = false)
      ∧ (talking 13 [31, 32, 12]).talkEligible 0 12 = true
      ∧ (talking 13 [31, 32, 12]).memberPlace 12 = some (0, .leader)
      ∧ (∀ x ∈ ((talking 13 [31, 32]).chan 0).talkQueue, (talking 13 [31, 32]).talkEligible 0 x = false)
      ∧ FromMember (talking 13 [31, 12]) 0 (frame 12) 0 .leader group7
      ∧ (∀ h, ((talking 13 [31, 12]).chan 0).talk = some h → h.radio ≠ (frame 12).sender) :=
  ⟨by decide, by decide, by decide, by decide, by decide, by decide, by decide,
    fromMember_of (arrives_of (by decide)) (by decide), by intro h hh; cases hh; decide⟩

/-! ### Witnesses: membership -/

theorem witness_join :
    FromRegistered (registered group7 [handset21]) 0 (frame 21) handset21 ∧ handset21.kind = .handset
      ∧ handset21.pinned = none ∧ (registered group7 [handset21]).slotOfCall 7 = some 0
      ∧ (registered group7 [handset21]).group 0 = some group7 ∧ group7.state = .active ∧ group7.crew.length < 4
      ∧ group7.join = none ∧ handset21.channel = group7.channel
      ∧ ((registered group7 [handset21]).chan 0).survey.jammed = false :=
  ⟨fromRegistered_of (arrives_of (by decide)) (by decide), by decide⟩

/-- The group while handset 21 waits to join it. -/
def joining : Machine.Group := { group7 with join := some { radio := 21, expiry := 9 } }

def waiting : State := registered joining [{ handset21 with pinned := some 0 }]

theorem witness_admit :
    FromMember waiting 0 { frame 12 with named := 21 } 0 .leader joining
      ∧ ((waiting.tick 5).presence 0 12).group 0 = some joining ∧ joining.join = some { radio := 21, expiry := 9 }
      ∧ waiting.entry 21 = some { handset21 with pinned := some 0 } :=
  ⟨fromMember_of (arrives_of (by decide)) (by decide), by decide⟩

/-- A REFUSE and a timeout while the entry is not expired; an entry that expires at this instant, and a pinned one. -/
theorem witness_join_ends :
    FromMember waiting 0 { frame 12 with named := 21 } 0 .leader joining
      ∧ ((waiting.tick 5).presence 0 12).group 0 = some joining ∧ waiting.group 0 = some joining
      ∧ joining.join = some { radio := 21, expiry := 9 } ∧ 9 ≤ max waiting.now 9
      ∧ waiting.entry 21 = some { handset21 with pinned := some 0 } ∧ max waiting.now 9 < 0 + 1000 * waiting.device.regExpiry
      ∧ (registered group7 [handset21]).entry 21 = some handset21
      ∧ 0 + 1000 * (registered group7 [handset21]).device.regExpiry ≤ max (registered group7 [handset21]).now 90000
      ∧ ({ handset21 with pinned := some 0 } : RegEntry).pinned.isSome = true :=
  ⟨fromMember_of (arrives_of (by decide)) (by decide), by decide⟩

theorem witness_leave_and_hand :
    (((holding group7).tick 5).presence 0 13).group 0 = some group7 ∧ FromMember (holding group7) 0 (frame 13) 0 .crew group7
      ∧ group7.state ≠ .opening ∧ group7.move = none ∧ (registered group7 (crowd 95)).table.length < 96
      ∧ (∀ c, ((holding group7).chan c).talk = none)
      ∧ (((holding group7).tick 5).presence 0 12).group 0 = some group7
      ∧ FromMember (holding group7) 0 { frame 12 with named := 13 } 0 .leader group7
      ∧ group7.crew.find? (fun x => x.radio == 13) = some { radio := 13, level := 7 } ∧ (holding group7).WarnSound
      ∧ (holding group7).device.warn < 7 ∧ group7.state = .active :=
  ⟨by decide, from_crew, by decide, rfl, by decide, by decide, by decide,
    fromMember_of (arrives_of (by decide)) (by decide), by decide, witness_warn_sound, by decide, rfl⟩

/-- Halted with an empty set, and with AREA. -/
def halted (cs : Causes) : Machine.Group := { group7 with state := .halt, causes := cs }

theorem witness_resume :
    FromMember (holding (halted {})) 0 (frame 12) 0 .leader (halted {})
      ∧ (((holding (halted {})).tick 5).presence 0 12).group 0 = some (halted {}) ∧ (halted {}).state = .halt
      ∧ (halted {}).causes = {} ∧ (halted {}).wait = none ∧ (halted {}).move = none
      ∧ FromMember (holding (halted (Causes.single .area))) 0 (frame 12) 0 .leader (halted (Causes.single .area))
      ∧ (((holding (halted (Causes.single .area))).tick 5).presence 0 12).group 0 = some (halted (Causes.single .area))
      ∧ (halted (Causes.single .area)).causes ≠ {} :=
  ⟨fromMember_of (arrives_of (by decide)) (by decide), by decide, rfl, rfl, rfl, rfl,
    fromMember_of (arrives_of (by decide)) (by decide), by decide⟩

/-! ### Witnesses: modem reports, instants, timers -/

def beatOnAir : Frame :=
  { source := .phase 0, kind := .beat, owner := some 0, awaited := true, address := .group 7, call := 7,
    content := .beat 11 0 }

theorem witness_beat_sent :
    (((holding group7).setChan 0 { live true with inFlight := some beatOnAir }).chan 0).inFlight = some beatOnAir
      ∧ ((holding group7).setChan 0 { live true with inFlight := some beatOnAir }).group 0 = some group7
      ∧ group7.state = .active ∧ group7.window = none ∧ group7.causes.starved = false
      ∧ (group7.roleOf 11).isSome = true ∧ (0 : Nat) ≠ 2 := by decide

def relayOnAir : Frame :=
  { source := .phase 0, kind := .relay, owner := some 0, awaited := true, address := .radio 11, call := 7,
    content := .relay { kind := .slow, arg := 0, seq := 15 } }

theorem witness_relay_refused :
    (((holding (ordered .slow 0 none)).setChan 0 { live true with inFlight := some relayOnAir }).chan 0).inFlight
        = some relayOnAir
      ∧ ((holding (ordered .slow 0 none)).setChan 0 { live true with inFlight := some relayOnAir }).group 0
        = some (ordered .slow 0 none)
      ∧ ((holding (ordered .slow 0 none)).setChan 0 { live true with inFlight := some relayOnAir }).isPending 0 (.phase 0)
        .relay = false := by decide

/-- The same controller with a survey sample on channel 1 in its seventh cycle. -/
def sampling (x : Sample) (f : Option Frame) : State :=
  (holding group7).setChan 1
    { live false with inFlight := f, survey := { Survey.fresh .running with cycle := 6, sample := x } }

/-- The moment equals the deadline; the deadline is reached with a frame on the air; a sample is outstanding. -/
theorem witness_sample :
    ((sampling (.waiting 5 5) none).chan 1).survey.cycle < 7
      ∧ ((sampling (.waiting 5 5) none).chan 1).survey.sample = .waiting 5 5
      ∧ ((sampling (.waiting 5 5) none).chan 1).inFlight = none ∧ ((sampling (.waiting 5 5) none).chan 1).talk = none
      ∧ ((sampling (.waiting 5 5) none).chan 1).samplingMoment 5 ≤ 5
      ∧ ((sampling (.waiting 5 5) (some beatOnAir)).chan 1).inFlight.isSome = true
      ∧ ((sampling (.outstanding 6 5) none).chan 1).survey.sample = .outstanding 6 5 := by decide

/-- The same with the survey's records given. -/
def surveyed (v : Survey) (p : Option Nat) : State := (holding group7).setChan 1 { live false with survey := v, pendingPeriod := p }

/-- A survey in its last cycle, with a running maximum and without one. -/
def lastCycle (m : Option RunMax) (j : Bool) : Survey :=
  { Survey.fresh .running with cycle := 7, sample := .outstanding 7 5, runMax := m, count := 6, jammed := j }

/-- At jam-on itself the flag is set; at jam-off itself it stays; below jam-off it is cleared. -/
theorem witness_result :
    ((surveyed (lastCycle none false) none).chan 1).survey.state = .running
      ∧ ((surveyed (lastCycle none false) none).chan 1).survey.cycle = 7
      ∧ ((surveyed (lastCycle none false) none).chan 1).survey.sample = .outstanding 7 5
      ∧ ((surveyed (lastCycle none false) none).chan 1).survey.runMax = none
      ∧ ((surveyed (lastCycle (some { level := 39, phase := 2 }) true) none).chan 1).survey.runMax
        = some { level := 39, phase := 2 }
      ∧ ((surveyed (lastCycle none false) none).chan 1).jamAfter (.level 40 7 7) = true
      ∧ ((surveyed (lastCycle none false) none).chan 1).jamAfter (.level 39 7 7) = false
      ∧ ((surveyed (lastCycle none true) none).chan 1).jamAfter (.level 32 7 7) = true
      ∧ ((surveyed (lastCycle none true) none).chan 1).jamAfter (.level 31 7 7) = false := by decide

/-- A late report beside an outstanding sample, in a quiet state. -/
theorem witness_late_level :
    (surveyed { Survey.fresh .running with sample := .outstanding 0 100 } none).Quiet
      ∧ ∀ p, ((surveyed { Survey.fresh .running with sample := .outstanding 0 100 } none).chan 1).survey.sample
        ≠ .outstanding p 0 := by
  refine ⟨by unfold State.Quiet; decide, fun p h => ?_⟩
  have hs : ((surveyed { Survey.fresh .running with sample := .outstanding 0 100 } none).chan 1).survey.sample
      = .outstanding 0 100 := by decide
  rw [hs] at h
  cases h

/-- Phase 0's instant at the start of the cycle. -/
theorem witness_beat_raised :
    (holding group7).ChannelsSound ∧ ((holding group7).chan 0).mode = .live ∧ ((holding group7).chan 0).reached ≤ (0 : Phase).val
      ∧ ((holding group7).chan 0).cycleStart + (0 : Phase).val * ((holding group7).chan 0).period / 8
        ≤ max (holding group7).now 0
      ∧ ((holding group7).chan 0).occupancy.get 0 = some 0 ∧ (holding group7).group 0 = some group7
      ∧ group7.channel = 0 ∧ group7.phase = 0 ∧ group7.state = .active
      ∧ (holding group7).isPending 0 (.phase 0) .halt = false ∧ ((holding group7).chan 0).survey.state ≠ .running
      ∧ group7.dropped < 3 := ⟨witness_channels_sound, by decide⟩

theorem witness_cycle_begins :
    ((holding group7).chan 0).mode = .live
      ∧ ((holding group7).chan 0).cycleStart + ((holding group7).chan 0).period ≤ max (holding group7).now 800
      ∧ ((holding group7).chan 0).survey.state = .off := by decide

/-- Each state of the survey, with a period that leaves room for the blank time of 20 ms; the error's own boundary. -/
theorem witness_survey_cycle :
    ((surveyed (Survey.fresh .armed) none).chan 1).survey.state = .armed
      ∧ ((surveyed (Survey.fresh .armed) none).chan 1).mode = .live
      ∧ ((surveyed (Survey.fresh .armed) none).chan 1).cycleStart + ((surveyed (Survey.fresh .armed) none).chan 1).period
        ≤ max (surveyed (Survey.fresh .armed) none).now 800
      ∧ ((surveyed (Survey.fresh .armed) none).chan 1).pendingPeriod = none
      ∧ ((surveyed { Survey.fresh .running with cycle := 6 } none).chan 1).survey.cycle < 7
      ∧ ((surveyed (lastCycle none false) none).chan 1).survey.cycle = 7
      ∧ ((surveyed (lastCycle none false) (some 400)).chan 1).pendingPeriod = some 400
      ∧ ((surveyed (lastCycle none false) (some 400)).chan 1).survey.state ≠ .off
      ∧ ¬ 1680 / 8 < 200 + 10 ∧ 1679 / 8 < 200 + 10 := by decide

/-- A window for the loco that expires now; the level falls to just above the threshold, and to 0. -/
def missing (l : Nat) (st : GroupState) : Machine.Group :=
  { group7 with state := st, window := some { target := 11, expiry := 9 }, loco := { group7.loco with level := l } }

theorem warnSound_of (g : Machine.Group) (h : ∀ j : SlotId, (holding g).group j = if j = 0 then some g else none)
    (hw : (g.state = .active → g.warned (holding g).device.warn = false)
      ∧ (g.state = .degraded → g.warned (holding g).device.warn = true)) : (holding g).WarnSound := by
  intro j k hk
  rw [h] at hk
  split at hk
  · cases hk; exact hw
  · cases hk

theorem witness_missed_poll :
    (holding (missing 5 .active)).group 0 = some (missing 5 .active)
      ∧ (missing 5 .active).window = some { target := 11, expiry := 9 } ∧ 9 ≤ max (holding group7).now 9
      ∧ (missing 5 .active).roleOf 11 = some .loco ∧ (holding (missing 5 .active)).Counts (missing 5 .active) 11 .loco
      ∧ (missing 5 .active).loco.level = 4 + 1
      ∧ (holding (missing 5 .active)).device.warn < 4 ∧ (holding (missing 5 .active)).WarnSound
      ∧ (holding (missing 1 .degraded)).group 0 = some (missing 1 .degraded)
      ∧ (holding (missing 1 .degraded)).Counts (missing 1 .degraded) 11 .loco ∧ (missing 1 .degraded).loco.level = 1
      ∧ (missing 1 .degraded).state = .degraded ∧ (missing 1 .degraded).causes = {} :=
  ⟨by decide, by decide, by decide, by decide, by unfold State.Counts; decide, by decide, by decide,
    warnSound_of _ (by decide) (by decide),
    by decide, by unfold State.Counts; decide, by decide⟩

/-- The leader's window: above the threshold, at the last level, and exempt by the standstill gate. -/
def leaderMissing (l : Nat) (st : GroupState) (m : Motion) : Machine.Group :=
  { group7 with
    state := st, gate := true, window := some { target := 12, expiry := 9 }, leader := { group7.leader with level := l }
    loco := { group7.loco with motion := m } }

/-- The crew member's window, at level `l`. -/
def crewMissing (l : Nat) : Machine.Group :=
  { group7 with gate := false, window := some { target := 13, expiry := 9 }, crew := [{ radio := 13, level := l }] }

theorem witness_leader_missed :
    (holding (leaderMissing 5 .active .moving)).WarnSound
      ∧ (leaderMissing 5 .active .moving).roleOf 12 = some .leader
      ∧ (holding (leaderMissing 5 .active .moving)).Counts (leaderMissing 5 .active .moving) 12 .leader
      ∧ (leaderMissing 5 .active .moving).leader.level = 4 + 1
      ∧ ¬ (holding (leaderMissing 5 .active .standing)).Counts (leaderMissing 5 .active .standing) 12 .leader
      ∧ (holding (leaderMissing 1 .degraded .moving)).Counts (leaderMissing 1 .degraded .moving) 12 .leader
      ∧ (leaderMissing 1 .degraded .moving).leader.level = 1 ∧ (leaderMissing 1 .degraded .moving).causes = {} :=
  ⟨warnSound_of _ (by decide) (by decide), by decide, by unfold State.Counts; decide, by decide,
    by unfold State.Counts; decide, by unfold State.Counts; decide, by decide⟩

theorem witness_crew_missed :
    (holding (crewMissing 5)).WarnSound ∧ (crewMissing 5).roleOf 13 = some .crew
      ∧ (holding (crewMissing 5)).Counts (crewMissing 5) 13 .crew ∧ (crewMissing 5).levelOf 13 .crew = 4 + 1
      ∧ (holding (crewMissing 1)).WarnSound ∧ (holding (crewMissing 1)).Counts (crewMissing 1) 13 .crew
      ∧ (crewMissing 1).levelOf 13 .crew = 1 ∧ 1 ≤ (holding (crewMissing 1)).device.warn
      ∧ ((holding (crewMissing 1)).chan 0).survey.jammed = false ∧ (crewMissing 1).move = none
      ∧ (∀ c, ((holding (crewMissing 1)).chan c).talk = none)
      ∧ (((holding (crewMissing 1)).setChan 0 { live true with survey := { Survey.fresh .off with jammed := true } }).chan
        0).survey.jammed = true :=
  ⟨warnSound_of _ (by decide) (by decide), by decide, by unfold State.Counts; decide, by decide,
    warnSound_of _ (by decide) (by decide), by unfold State.Counts; decide, by decide⟩

theorem witness_move_window :
    (holding (moving [11, 12, 13])).group 0 = some (moving [11, 12, 13])
      ∧ (moving [11, 12, 13]).move = some { oldChan := 1, oldPhase := 0, expiry := 9, checked := [11, 12, 13] }
      ∧ 9 ≤ max (holding group7).now 9 ∧ (∀ r ∈ (moving [11, 12, 13]).radios, r ∈ [11, 12, 13])
      ∧ (holding (moving [12, 13])).group 0 = some (moving [12, 13]) ∧ (moving [12, 13]).loco.radio ∉ [12, 13]
      ∧ (moving [12, 13]).leader.radio ∈ [12, 13] ∧ (∀ x ∈ (moving [12, 13]).crew, x.radio ∈ [12, 13])
      ∧ (moving [12, 13]).state = .active ∧ (moving [12, 13]).causes = {} ∧ (1 : Chan) ≠ (moving [12, 13]).channel
      ∧ ((holding (moving [12, 13])).chan 1).inFlight = none := by decide

/-! ### Witnesses: modes, profile, area lines, the port -/

theorem witness_fallback :
    ({ State.reset with profileValid := true } : State).profileValid = true
      ∧ ({ State.reset with profileValid := true } : State).storing = none ∧ State.reset.profile.InRange
      ∧ State.reset.profileValid = false ∧ State.reset.storing = none
      ∧ ({ holding group7 with storing := some builtinProfile } : State).storing = some builtinProfile ∧ builtinProfile.InRange
      ∧ State.reset.mode = .startup ∧ State.reset.startupExpiry = some 10000 ∧ 10000 ≤ max State.reset.now 10000
      ∧ (holding group7).mode = .operate ∧ (holding group7).device.silence = some 3 ∧ (holding group7).silenceSince = some 0
      ∧ 0 + 250 * 2 ^ 3 ≤ max (holding group7).now 2000 :=
  ⟨rfl, rfl, builtinProfile_inRange, rfl, rfl, rfl, builtinProfile_inRange, by decide⟩

theorem witness_store :
    (holding group7).storing = none ∧ (holding group7).mode ≠ .fallback
      ∧ ({ holding group7 with storing := some builtinProfile } : State).storing = some builtinProfile := by decide

theorem witness_area :
    (holding group7).GroupsSound ∧ (holding group7).areaAsserted (areaOfLine .lineA) = false
      ∧ ({ holding group7 with areaB := true } : State).areaAsserted (areaOfLine .lineB) = true
      ∧ NamesGroup (holding group7) { selector := 0, number := 0 } 0 ∧ (holding group7).storing = none
      ∧ (holding group7).mode ≠ .fallback ∧ (holding group7).group 0 = some group7 ∧ areaOf 2 = some .b
      ∧ (holding group7).areaAsserted .b = false :=
  ⟨witness_groups_sound, by decide, by decide, names_slot_0 _, by decide⟩

theorem witness_curve_mismatch : (1 : Nat) ≠ ([60, 70] : List Nat).length ∧ (77 : Nat) ≠ 0 := by decide

theorem witness_operate :
    State.reset.storing = none ∧ State.reset.mode = .startup
      ∧ ({ State.reset with mode := .fallback } : State).mode = .fallback := by decide

theorem witness_reads :
    (holding group7).storing = none ∧ NamesGroup (holding group7) { selector := 0, number := 39 } 39
      ∧ (holding group7).slotOfCall 99 = none ∧ 0 < (registered group7 [handset21]).table.length
      ∧ (registered group7 [handset21]).table.length ≤ 1 ∧ (holding group7).entry 21 = none :=
  ⟨by decide, .inl ⟨rfl, rfl⟩, by decide⟩

/-- The lowest of two marked slots; none marked; a STORE in progress. -/
theorem witness_poll :
    (((holding group7).setSlot 38 { changed := true, body := .free .forced }).setSlot 39
        { changed := true, body := .free .forced }).storing = none
      ∧ ((((holding group7).setSlot 38 { changed := true, body := .free .forced }).setSlot 39
        { changed := true, body := .free .forced }).slot 38).changed = true
      ∧ (∀ j : SlotId, j < 38 → ((((holding group7).setSlot 38 { changed := true, body := .free .forced }).setSlot 39
        { changed := true, body := .free .forced }).slot j).changed = false)
      ∧ (∀ j, ((holding group7).slot j).changed = false)
      ∧ ({ holding group7 with storing := some builtinProfile } : State).storing.isSome = true := by decide

/-- By channel 0 or by ANY, with the line of the area released and asserted. -/
theorem witness_open :
    ((registered group7 [handset21, loco22]).RadiosSound ∧ (registered group7 [handset21, loco22]).FloorsSound)
      ∧ (registered group7 [handset21, loco22]).storing = none ∧ (registered group7 [handset21, loco22]).mode = .operate
      ∧ openAreaOf open8.area = some (some .none) ∧ open8.gate ≤ 1
      ∧ (∀ d : Chan, d < 0 → ((registered group7 [handset21, loco22]).chan d).mode = .off)
      ∧ (registered group7 [handset21, loco22]).slotOfCall 8 = none ∧ (registered group7 [handset21, loco22]).group 1 = none
      ∧ (∀ j : SlotId, j < 1 → (registered group7 [handset21, loco22]).group j ≠ none)
      ∧ ((registered group7 [handset21, loco22]).chan 0).mode = .live
      ∧ ((registered group7 [handset21, loco22]).chan 0).survey.jammed = false
      ∧ ((registered group7 [handset21, loco22]).chan 0).occupancy.get 1 = none
      ∧ (∀ q : Phase, q < 1 → ((registered group7 [handset21, loco22]).chan 0).occupancy.get q ≠ none)
      ∧ (registered group7 [handset21, loco22]).entry 22 = some loco22
      ∧ (registered group7 [handset21, loco22]).entry 21 = some handset21
      ∧ (registered group7 [handset21, loco22]).areaAsserted .none = false
      ∧ openAreaOf 1 = some (some .a)
      ∧ ({ registered group7 [handset21, loco22] with areaA := true } : State).areaAsserted .a = true :=
  ⟨witness_registered_sound, by decide⟩

theorem witness_move :
    NamesGroup (holding group7) { selector := 0, number := 0 } 0 ∧ (holding group7).storing = none
      ∧ (holding group7).mode = .operate ∧ (holding group7).group 0 = some group7 ∧ group7.state = .active
      ∧ group7.wait = none ∧ group7.move = none ∧ group7.finalHalt = none ∧ group7.order = none
      ∧ (1 : Chan) ≠ group7.channel ∧ ((holding group7).chan 1).mode = .live
      ∧ ((holding group7).chan 1).survey.jammed = false ∧ ((holding group7).chan 1).occupancy.get 0 = none
      ∧ (∀ q : Phase, q < 0 → ((holding group7).chan 1).occupancy.get q ≠ none) ∧ ((holding group7).chan 0).talk = none
      ∧ (∀ m ∈ group7.crew, m.level ≠ 0) :=
  ⟨names_slot_0 _, by decide⟩

theorem witness_host_stops :
    (holding group7).storing = none ∧ (holding group7).mode ≠ .fallback ∧ (holding group7).GroupsSound
      ∧ NamesGroup (holding group7) { selector := 0, number := 0 } 0 ∧ (holding group7).group 0 = some group7 :=
  ⟨by decide, by decide, witness_groups_sound, names_slot_0 _, by decide⟩

/-- Both ends of the period's range, LIVE on an OFF channel with its survey off, OFF with a phase held, the halt excess
one above the tolerance. -/
theorem witness_settings :
    (holding group7).storing = none ∧ (holding group7).mode ≠ .fallback ∧ ((holding group7).chan 0).mode = .live
      ∧ (400 : Nat) ≤ 3200
      ∧ (((holding group7).setChan 2 { live false with mode := .off, epoch := none }).chan 2).mode = .off
      ∧ (((holding group7).setChan 2 { live false with mode := .off, epoch := none }).chan 2).config.survey = false
      ∧ (∃ q, ((holding group7).chan 0).occupancy.get q ≠ none)
      ∧ (50 : Nat) ≤ 50 ∧ (5 : Nat) < (holding group7).device.haltExcess ∧ (5 : Nat) < 6 := by decide

theorem witness_writes_taken :
    (holding group7).storing = none ∧ (holding group7).mode ≠ .fallback ∧ 30 + ([400, 400] : List Nat).length ≤ 32
      ∧ (∀ x ∈ ([400, 400] : List Nat), x ≤ 400) ∧ setPairing3.index = (3 : PairingId).val ∧ 1 ≤ setPairing3.call
      ∧ setPairing3.call ≤ 99 ∧ setPairing3.channel ≤ 7 ∧ setPairing3.area ≤ 2 := by decide

end Sys2Proof.Tests
end

section
/-!
The permitted speed of the approach check (R118): its two branches, and the bounds that truncation toward zero gives
the interpolation on a rising and on a falling segment.
-/
namespace Sys2Proof.ApproachProofs
open Sys2Proof Sys2Proof.Machine

/-! ### The interpolation over the whole numbers -/

/-- A share `off / w` of a rise, truncated, is a part of that rise. -/
theorem tdiv_share_of_nonneg {d off w : Int} (hd : 0 ≤ d) (hoff : 0 ≤ off) (hw : off < w) :
    0 ≤ (d * off).tdiv w ∧ (d * off).tdiv w ≤ d := by
  have hprod : 0 ≤ d * off := mul_nonneg hd hoff
  have hle : d * off ≤ d * w := mul_le_mul_of_nonneg_left hw.le hd
  rw [Int.tdiv_eq_ediv_of_nonneg hprod]
  exact ⟨Int.ediv_nonneg hprod (hoff.trans hw.le), Int.ediv_le_of_le_mul (hoff.trans_lt hw) hle⟩

/-- R118: the interpolated value never leaves the interval of its two entries. A falling segment is the rising one of
the opposite difference, because truncation toward zero commutes with negation. -/
theorem interpolation_between {lo hi off w : Int} (hoff : 0 ≤ off) (hw : off < w) :
    min lo hi ≤ lo + ((hi - lo) * off).tdiv w ∧ lo + ((hi - lo) * off).tdiv w ≤ max lo hi := by
  rcases le_total lo hi with hrise | hfall
  · have hshare := tdiv_share_of_nonneg (sub_nonneg.mpr hrise) hoff hw
    omega
  · have hshare := tdiv_share_of_nonneg (sub_nonneg.mpr hfall) hoff hw
    have hneg : ((hi - lo) * off).tdiv w = -((lo - hi) * off).tdiv w := by
      rw [← Int.neg_tdiv, ← neg_mul, neg_sub]
    omega

/-- R118: the offset in a band of width `2 ^ k` lies in 0 to `2 ^ k - 1`, so the interpolation at it is between the
entries. -/
theorem interpolation_mod_between (lo hi r k : Nat) :
    min (lo : Int) hi ≤ lo + (((hi : Int) - lo) * (r % 2 ^ k : Nat)).tdiv (2 ^ k)
      ∧ lo + (((hi : Int) - lo) * (r % 2 ^ k : Nat)).tdiv (2 ^ k) ≤ max (lo : Int) hi :=
  interpolation_between (Int.natCast_nonneg _) (mod_cast Nat.mod_lt r (Nat.two_pow_pos k))

/-! ### The two branches of the model's function -/

/-- R123: inside the table an entry is read as it stands. -/
@[simp] theorem curveAt_val (c : Vector Nat 32) (b : Fin 32) : curveAt c b.val = c.get b := by
  simp [curveAt]

/-- R118: no interpolation in the last band or beyond it. -/
theorem permittedSpeed_last (c : Vector Nat 32) {k r : Nat} (h : 31 ≤ r / 2 ^ k) :
    permittedSpeed c k r = c.get 31 := by
  simp [permittedSpeed, Nat.min_eq_left h, curveAt]

/-- The offset in the band is the remainder of the distance by the band's width. -/
theorem sub_band_eq_mod {b k r : Nat} (hb : b = r / 2 ^ k) :
    (r : Int) - b * 2 ^ k = ((r % 2 ^ k : Nat) : Int) := by
  have hdiv := Nat.div_add_mod' r (2 ^ k)
  rw [← hb] at hdiv
  have : (b : Int) * 2 ^ k + (r % 2 ^ k : Nat) = r := by exact_mod_cast hdiv
  omega

/-- R118 below the last band: the interpolated value, whose `toNat` loses nothing because it lies above the smaller of
two entries. -/
theorem permittedSpeed_band (c : Vector Nat 32) {k r : Nat} {b b' : Fin 32} (hb : b.val = r / 2 ^ k)
    (hb' : b'.val = b.val + 1) :
    (permittedSpeed c k r : Int)
      = c.get b + (((c.get b' : Int) - c.get b) * (r % 2 ^ k : Nat)).tdiv (2 ^ k) := by
  have hlast : ¬ b.val = 31 := by omega
  have hmin : min 31 (r / 2 ^ k) = b.val := by omega
  have hoff : r - b.val * 2 ^ k = r % 2 ^ k := by rw [hb, Nat.mod_eq_sub_div_mul]
  have hbelow := (interpolation_mod_between (c.get b) (c.get b') r k).1
  simp only [permittedSpeed, hmin, if_neg hlast, hoff, ← hb', curveAt_val]
  push_cast at hbelow ⊢
  omega

/-- R118: the permitted speed lies between the two entries it was interpolated from. -/
theorem permittedSpeed_between (c : Vector Nat 32) {k r : Nat} {b b' : Fin 32} (hb : b.val = r / 2 ^ k)
    (hb' : b'.val = b.val + 1) :
    min (c.get b) (c.get b') ≤ permittedSpeed c k r ∧ permittedSpeed c k r ≤ max (c.get b) (c.get b') := by
  have hbounds := interpolation_mod_between (c.get b) (c.get b') r k
  rw [← permittedSpeed_band c hb hb'] at hbounds
  omega

/-- R118: at the lower edge of a band the permitted speed is the band's entry. -/
theorem permittedSpeed_edge (c : Vector Nat 32) {k r : Nat} {b b' : Fin 32} (hb : b.val = r / 2 ^ k)
    (hb' : b'.val = b.val + 1) (hr : r % 2 ^ k = 0) : permittedSpeed c k r = c.get b := by
  have h := permittedSpeed_band c hb hb'
  simpa [hr] using h

/-- Settles O16: the last band by its branch, a band below it by the interpolation with its bounds and its edge. -/
theorem permittedSpeed : Obligations.PermittedSpeed := by
  intro c k r
  refine ⟨permittedSpeed_last c, fun b b' hb hb' => ?_⟩
  obtain ⟨hlower, hupper⟩ := permittedSpeed_between c hb hb'
  refine ⟨?_, hlower, hupper, permittedSpeed_edge c hb hb'⟩
  rw [sub_band_eq_mod hb]
  exact permittedSpeed_band c hb hb'

end Sys2Proof.ApproachProofs
end

section
/-!
The resolution of a channel's arbiter (R132). Both running bests of the model, a source's candidate and the walk's best so
far, keep one invariant: the best leads the list of the requests seen so far (`Leads`).
-/
namespace Sys2Proof.ArbiterProofs
open Sys2Proof Sys2Proof.Machine

/-! ### The order of a resolution -/

/-- R132: `r` does not win over `w`: a lower level, or a tie whose source comes later in the chain, or a tie at one source
whose kind is not earlier in the kind order. -/
def YieldsTo (r w : Request) : Prop :=
  r.kind.level < w.kind.level
    ∨ (r.kind.level = w.kind.level
      ∧ (w.source.place < r.source.place ∨ (w.source = r.source ∧ w.kind.place ≤ r.kind.place)))

theorem YieldsTo.refl (r : Request) : YieldsTo r r := .inr ⟨rfl, .inr ⟨rfl, le_rfl⟩⟩

theorem YieldsTo.level_le {r w : Request} (h : YieldsTo r w) : r.kind.level ≤ w.kind.level := by
  rcases h with hlow | ⟨htie, -⟩
  · exact hlow.le
  · exact htie.le

theorem YieldsTo.trans {r q w : Request} (hrq : YieldsTo r q) (hqw : YieldsTo q w) : YieldsTo r w := by
  rcases hrq with hlow | ⟨htie, hrq⟩
  · exact .inl (hlow.trans_le hqw.level_le)
  rcases hqw with hlow | ⟨htie', hqw⟩
  · exact .inl (htie.trans_lt hlow)
  refine .inr ⟨htie.trans htie', ?_⟩
  rcases hqw with hlater | ⟨hsource, hkind⟩ <;> rcases hrq with hlater' | ⟨hsource', hkind'⟩
  · exact .inl (hlater.trans hlater')
  · exact .inl (hsource' ▸ hlater)
  · exact .inl (hsource ▸ hlater')
  · exact .inr ⟨hsource.trans hsource', hkind.trans hkind'⟩

theorem before_iff {r q : Request} :
    r.before q = true
      ↔ q.kind.level < r.kind.level ∨ (r.kind.level = q.kind.level ∧ r.kind.place < q.kind.place) := by
  simp [Request.before]

theorem yieldsTo_of_before {r q : Request} (hs : r.source = q.source) (h : r.before q = true) : YieldsTo q r := by
  rcases before_iff.mp h with hlevel | ⟨hlevel, hplace⟩
  · exact .inl hlevel
  · exact .inr ⟨hlevel.symm, .inr ⟨hs, hplace.le⟩⟩

theorem yieldsTo_of_not_before {r q : Request} (hs : r.source = q.source) (h : ¬ r.before q = true) : YieldsTo r q := by
  rw [before_iff, not_or, not_and, not_lt, not_lt] at h
  obtain ⟨hlevel, hplace⟩ := h
  rcases hlevel.lt_or_eq with hlow | htie
  · exact .inl hlow
  · exact .inr ⟨htie, .inr ⟨hs.symm, hplace htie⟩⟩

/-! ### Leading a list of requests -/

/-- The running best of a resolution after the requests of a list: none before the first request, then one of them to which
all of them yield. -/
def Leads (l : List Request) : Option Request → Prop
  | none => l = []
  | some w => w ∈ l ∧ ∀ r ∈ l, YieldsTo r w

@[simp] theorem leads_none {l : List Request} : Leads l none ↔ l = [] := Iff.rfl

@[simp] theorem leads_some {l : List Request} {w : Request} :
    Leads l (some w) ↔ w ∈ l ∧ ∀ r ∈ l, YieldsTo r w := Iff.rfl

theorem Leads.eq_none_iff {l : List Request} {best : Option Request} (h : Leads l best) : best = none ↔ l = [] := by
  cases best with
  | none => simpa using h
  | some w => simpa using List.ne_nil_of_mem h.1

/-- The best so far stays where all the further requests yield to it. -/
theorem Leads.keep {l l' : List Request} {w : Request} (h : Leads l (some w)) (h' : ∀ r ∈ l', YieldsTo r w) :
    Leads (l ++ l') (some w) :=
  ⟨List.mem_append_left _ h.1, List.forall_mem_append.mpr ⟨h.2, h'⟩⟩

/-- The best so far is replaced where it yields to the best of the further requests. -/
theorem Leads.replace {l l' : List Request} {b w : Request} (h : Leads l (some b)) (h' : Leads l' (some w))
    (hbw : YieldsTo b w) : Leads (l ++ l') (some w) :=
  ⟨List.mem_append_right _ h'.1, List.forall_mem_append.mpr ⟨fun r hr => (h.2 r hr).trans hbw, h'.2⟩⟩

/-- Leading depends on the members of the list alone. -/
theorem Leads.of_mem_iff {l l' : List Request} (hl : ∀ r, r ∈ l ↔ r ∈ l') {best : Option Request} (h : Leads l best) :
    Leads l' best := by
  cases best with
  | none => simpa [List.eq_nil_iff_forall_not_mem, hl] using h
  | some w => simpa [hl] using h

/-! ### A source's candidate -/

/-- The requests of a list that stand at a source. -/
def atSource (l : List Request) (src : Source) : List Request := l.filter fun r => r.source == src

@[simp] theorem mem_atSource {l : List Request} {src : Source} {r : Request} :
    r ∈ atSource l src ↔ r ∈ l ∧ r.source = src := by
  simp [atSource]

theorem leads_singleton (r : Request) : Leads [r] (some r) := by simp [YieldsTo.refl]

theorem Leads.betterAtSource {seen : List Request} {best : Option Request} {r : Request} (h : Leads seen best)
    (hs : ∀ q ∈ seen, r.source = q.source) : Leads (seen ++ [r]) (betterAtSource best r) := by
  cases best with
  | none => simpa [leads_none.mp h, Machine.betterAtSource] using leads_singleton r
  | some b =>
    have hsame : r.source = b.source := hs b h.1
    by_cases hb : r.before b = true
    · simpa [Machine.betterAtSource, hb] using h.replace (leads_singleton r) (yieldsTo_of_before hsame hb)
    · simpa [Machine.betterAtSource, hb] using
        h.keep (l' := [r]) (by simpa using yieldsTo_of_not_before hsame hb)

theorem Leads.foldl_betterAtSource {src : Source} (l : List Request) {seen : List Request} {best : Option Request}
    (h : Leads seen best) (hseen : ∀ q ∈ seen, q.source = src) (hl : ∀ q ∈ l, q.source = src) :
    Leads (seen ++ l) (l.foldl Machine.betterAtSource best) := by
  induction l generalizing seen best with
  | nil => simpa using h
  | cons r rest ih =>
    rw [List.forall_mem_cons] at hl
    obtain ⟨hr, hrest⟩ := hl
    have hstep := h.betterAtSource fun q hq => hr.trans (hseen q hq).symm
    have hseen' : ∀ q ∈ seen ++ [r], q.source = src := List.forall_mem_append.mpr ⟨hseen, by simpa using hr⟩
    simpa using ih hstep hseen' hrest

/-- R132: the candidate of a source leads its requests. -/
theorem leads_candidate (l : List Request) (src : Source) : Leads (atSource l src) (candidate l src) :=
  Leads.foldl_betterAtSource (src := src) (atSource l src) (leads_none.mpr rfl) (by simp) (by simp)

/-! ### The walk of the chain -/

/-- R132: a later candidate replaces the best so far only at a strictly higher level, so a tie stays nearer the head. -/
theorem Leads.betterInChain {seen l : List Request} {best cand : Option Request} (h : Leads seen best)
    (hc : Leads l cand) (hlater : ∀ q ∈ seen, ∀ r ∈ l, q.source.place < r.source.place) :
    Leads (seen ++ l) (betterInChain best cand) := by
  cases best with
  | none => simpa [leads_none.mp h, Machine.betterInChain] using hc
  | some b =>
    cases cand with
    | none => simpa [leads_none.mp hc, Machine.betterInChain] using h
    | some c =>
      by_cases hlevel : b.kind.level < c.kind.level
      · simpa only [Machine.betterInChain, if_pos hlevel] using h.replace hc (.inl hlevel)
      · have hcb : YieldsTo c b :=
          (not_lt.mp hlevel).lt_or_eq.imp_right fun htie => ⟨htie, .inl (hlater b h.1 c hc.1)⟩
        simpa only [Machine.betterInChain, if_neg hlevel] using h.keep fun r hr => (hc.2 r hr).trans hcb

theorem Leads.foldl_betterInChain (l : List Request) (srcs : List Source) {seen : List Request}
    {best : Option Request} (h : Leads seen best) (hlater : ∀ q ∈ seen, ∀ src ∈ srcs, q.source.place < src.place)
    (hsorted : srcs.Pairwise fun a b => a.place < b.place) :
    Leads (seen ++ srcs.flatMap (atSource l))
      (srcs.foldl (fun best src => Machine.betterInChain best (candidate l src)) best) := by
  induction srcs generalizing seen best with
  | nil => simpa using h
  | cons src rest ih =>
    obtain ⟨hhead, hrest⟩ := List.pairwise_cons.mp hsorted
    have hstep := h.betterInChain (leads_candidate l src) fun q hq r hr => by
      rw [(mem_atSource.mp hr).2]
      exact hlater q hq src List.mem_cons_self
    have hlater' : ∀ q ∈ seen ++ atSource l src, ∀ s ∈ rest, q.source.place < s.place :=
      List.forall_mem_append.mpr
        ⟨fun q hq s hs => hlater q hq s (List.mem_cons_of_mem _ hs), fun q hq s hs => by
          rw [(mem_atSource.mp hq).2]
          exact hhead s hs⟩
    simpa using ih hstep hlater' hrest

/-- R132: the chain runs from the channel source through the phases in order. -/
theorem chain_sorted : chain.Pairwise fun a b => a.place < b.place := by decide

theorem mem_chain (src : Source) : src ∈ chain := by
  cases src <;> simp [chain, phases]

/-- R132: the walk's winner leads the whole set, because each request stands at one source of the chain. -/
theorem leads_walk (l : List Request) : Leads l (walk l) := by
  have hwalk := Leads.foldl_betterInChain l chain (leads_none.mpr rfl) (by simp) chain_sorted
  exact hwalk.of_mem_iff fun r => by simp [mem_chain]

/-- R131, R132: the winner of an arbiter that may hand over leads the eligible requests of its channel. -/
theorem leads_winner {s : State} {c : Chan} (h : (s.chan c).mayHandOver = true) :
    Leads ((s.pendingSet c).filter (s.chan c).eligible) (s.winner c) := by
  rw [State.winner, if_pos h]
  exact leads_walk _

/-- Settles O17: the winner leads the eligible requests of the pending transmit set. -/
theorem chainWinner : Obligations.ChainWinner := by
  intro s c hmay
  have hlead := leads_winner hmay
  refine ⟨by simpa [List.filter_eq_nil_iff] using hlead.eq_none_iff, fun w hw => ?_⟩
  rw [hw, leads_some] at hlead
  obtain ⟨hmem, hyield⟩ := hlead
  obtain ⟨hpending, heligible⟩ := List.mem_filter.mp hmem
  exact ⟨hpending, heligible, fun r hr he => hyield r (List.mem_filter.mpr ⟨hr, he⟩)⟩

end Sys2Proof.ArbiterProofs
end

section
/-!
The attention line (R182). A POWER reset sets its cause item (R181) and leaves nothing for the end of the command to
settle, so the item is still in the attention set after the command.
-/
namespace Sys2Proof.AttentionProofs
open Sys2Proof Sys2Proof.Machine Sys2Proof.Machine.Laws

/-! ### The attention set -/

/-- R181: each item has a place of its own: the JAM CHANGE items of the eight channels end before the SURVEY ERROR items
begin. -/
theorem place_injective : Function.Injective AttnItem.place := by
  intro x y h
  cases x <;> cases y <;>
    simp only [AttnItem.place, AttnItem.jamChange.injEq, AttnItem.surveyError.injEq, Fin.ext_iff] at h ⊢ <;> omega

/-- R181: setting an item adds that item and keeps every other. -/
@[simp] theorem mem_attnAdd {x y : AttnItem} {l : List AttnItem} : y ∈ attnAdd x l ↔ y = x ∨ y ∈ l := by
  refine ⟨mem_insertBy, ?_⟩
  rintro (rfl | hmem)
  · exact insertBy_self
  · by_cases hxy : x = y
    · exact hxy ▸ insertBy_self
    · exact mem_insertBy_of_ne hmem (place_injective.ne hxy)

@[simp] theorem mem_foldr_attnAdd {y : AttnItem} {xs l : List AttnItem} :
    y ∈ xs.foldr attnAdd l ↔ y ∈ xs ∨ y ∈ l := by
  induction xs with
  | nil => simp
  | cons x xs ih => simp [ih, or_assoc]

/-- R181: a reset sets the item of its cause. -/
theorem cause_mem_resetWith (k : AttnItem) (a b : Bool) (s : State) : k ∈ (s.resetWith k a b).attention := by
  simp [State.resetWith, attentionAfter]

/-! ### A reset leaves nothing to settle -/

/-- R179, R180: every channel is built anew from the loaded profile. -/
@[simp] theorem chan_resetWith (k : AttnItem) (a b : Bool) (s : State) (c : Chan) :
    (s.resetWith k a b).chan c = Channel.afterReset (s.loaded.channels.get c) s.now := by
  simp [chan_def, State.resetWith]

/-- R162, R167: the survey that a reset judges has requested no sample, whether it is off, in error or running. -/
@[simp] theorem sample_afterReset (p : ChannelProfile) : (Survey.afterReset p).sample = .none := by
  unfold Survey.afterReset
  split
  · split <;> rfl
  · rfl

theorem sampleLost_afterReset (p : ChannelProfile) (now : Instant) :
    (Channel.afterReset p now).sampleLost = false := by
  simp [Channel.sampleLost, Channel.afterReset]

/-- R126, R179: a channel is NOT READY after a reset, so its arbiter hands nothing over. -/
theorem mayHandOver_afterReset (p : ChannelProfile) (now : Instant) :
    (Channel.afterReset p now).mayHandOver = false := by
  simp [Channel.mayHandOver, Channel.afterReset]

/-- R131, R179: right after a reset no sample is lost, no examination is due and no arbiter has a winner. -/
theorem quiet_resetWith (k : AttnItem) (a b : Bool) (s : State) : (s.resetWith k a b).Quiet := by
  refine ⟨?_, rfl, ?_⟩
  · simp [State.lostSample, sampleLost_afterReset]
  · simp [State.nextHandOver, State.winner, mayHandOver_afterReset]

/-- R179: a POWER reset is the whole of its command. -/
theorem exec_powerReset (t : Instant) (a b : Bool) (s : State) :
    exec (.powerReset t a b) s = .next ((s.tick t).resetWith .power a b) := by
  have hexec : exec (.powerReset t a b) s = .next ((s.tick t).resetWith .power a b).finish := rfl
  rw [hexec, finish_of_quiet (quiet_resetWith ..)]

/-! ### The line -/

theorem anyChanged_iff (s : State) : s.anyChanged = true ↔ ∃ i, (s.slot i).changed = true := by
  simp [State.anyChanged, slotIds]

/-- R182: the line is asserted exactly when an item or a changed mark is set. -/
theorem attentionLine_iff (s : State) :
    s.attentionLine = true ↔ s.attention ≠ [] ∨ ∃ i, (s.slot i).changed = true := by
  simp [State.attentionLine, anyChanged_iff]

theorem attentionLine_of_mem {x : AttnItem} {s : State} (h : x ∈ s.attention) : s.attentionLine = true :=
  (attentionLine_iff s).mpr (.inl (List.ne_nil_of_mem h))

/-- Settles O19: the line by its definition, and a POWER reset by the item of its cause. -/
theorem attentionLine : Obligations.AttentionLine := by
  refine ⟨attentionLine_iff, fun t a b s u hexec => ?_⟩
  rw [exec_powerReset] at hexec
  obtain rfl := Host.Outcome.next.inj hexec
  exact attentionLine_of_mem (cause_mem_resetWith .power a b (s.tick t))

end Sys2Proof.AttentionProofs
end

section
/-!
The commands as a whole. Every command is an event with an effect, a frame of the port with a body, or a transaction that
carries no command; the invariants and the frames of whole commands are proved through these three shapes.
-/
namespace Sys2Proof.CommandProofs
open Sys2Proof Sys2Proof.Machine Sys2Proof.Machine.Laws

/-! ### The three shapes -/

/-- What the owning block of an uplink kind does for a member's slot. -/
def memberAct (k : UplinkKind) (f : UplinkFrame) (i : SlotId) (s : State) : State :=
  match k with
  | .checkIn => s.checkInAct f.sender i
  | .order => s.orderAct f i
  | .orderAck => s.orderAckAct f i
  | .haltAck => s.haltAckAct i
  | .talkReq => s.talkReqAct f.sender i
  | .talkEnd => s.talkEndAct f.sender i
  | .admitFrame => s.admitAct f i
  | .refuse => s.refuseAct f i
  | .leave => s.leaveAct f.sender i
  | .hand => s.handAct f i
  | .resume => s.resumeAct f i
  | .disband => s.disbandAct f i
  | .attachAck => s.attachAckAct i
  | .releaseAck => s.releaseAckAct i
  | .answer | .status | .join => s

/-- What an uplink kind does for a radio with an entry. -/
def entryAct (k : UplinkKind) (c : Chan) (f : UplinkFrame) (e : RegEntry) (s : State) : State :=
  match k with
  | .join => s.joinAct c f e
  | _ => s

/-- The effect of an uplink frame. -/
def uplink (k : UplinkKind) (c : Chan) (f : UplinkFrame) (s : State) : State :=
  s.intake k c f (memberAct k f) (entryAct k c f)

/-- The instant and the effect of a command that comes from a channel line, a timer, an area line or the reset line. -/
def eventEffect : Instr → Option (Instant × (State → State))
  | .checkIn t c f => some (t, uplink .checkIn c f)
  | .answer t c f => some (t, uplink .answer c f)
  | .statusFrame t c f => some (t, uplink .status c f)
  | .order t c f => some (t, uplink .order c f)
  | .orderAck t c f => some (t, uplink .orderAck c f)
  | .haltAck t c f => some (t, uplink .haltAck c f)
  | .attachAck t c f => some (t, uplink .attachAck c f)
  | .releaseAck t c f => some (t, uplink .releaseAck c f)
  | .talkReq t c f => some (t, uplink .talkReq c f)
  | .talkEnd t c f => some (t, uplink .talkEnd c f)
  | .join t c f => some (t, uplink .join c f)
  | .admitFrame t c f => some (t, uplink .admitFrame c f)
  | .refuse t c f => some (t, uplink .refuse c f)
  | .leave t c f => some (t, uplink .leave c f)
  | .hand t c f => some (t, uplink .hand c f)
  | .resume t c f => some (t, uplink .resume c f)
  | .disbandFrame t c f => some (t, uplink .disband c f)
  | .txDone t c => some (t, fun s => s.report c true)
  | .txRefused t c => some (t, fun s => s.report c false)
  | .ready t c => some (t, fun s => s.setReady c true)
  | .notReady t c => some (t, fun s => s.setReady c false)
  | .levelReport t c l a => some (t, fun s => s.takeLevel c l a)
  | .phaseInstant t c p => some (t, fun s => s.phaseInstant c p)
  | .cycleStart t c b => some (t, fun s => s.cycleStart c b)
  | .answerWindowExpiry t i => some (t, fun s => s.windowExpiry i)
  | .registrationExpiry t r => some (t, fun s => s.registrationExpiry r)
  | .joinTimeout t i => some (t, fun s => s.joinExpiry i)
  | .attachTimeout t i => some (t, fun s => s.attachExpiry i)
  | .releaseTimeout t i => some (t, fun s => s.releaseExpiry i)
  | .orderTimeout t i => some (t, fun s => s.orderExpiry i)
  | .talkWindowExpiry t c => some (t, fun s => s.talkExpiry c)
  | .moveWindowExpiry t i => some (t, fun s => s.moveExpiry i)
  | .startupTimerExpiry t => some (t, fun s => s.startupExpires)
  | .hostSilenceExpiry t => some (t, fun s => s.silenceExpires)
  | .storeCompletion t => some (t, fun s => s.storeCompletes)
  | .samplingMoment t c => some (t, fun s => s.samplingMoment c)
  | .sampleDeadline t c => some (t, fun s => s.sampleDeadline c)
  | .areaAsserted t l => some (t, fun s => s.lineAsserted l)
  | .areaReleased t l => some (t, fun s => s.lineReleased l)
  | .powerReset t a b => some (t, fun s => s.resetWith .power a b)
  | .lineReset t a b => some (t, fun s => s.resetWith .line a b)
  | _ => none

/-- What a command of the port does once its frame is judged. -/
def portBody : Instr → State → Verdict
  | .beginOperate _ _, s => .taken s.operate false fun _ => .none
  | .reconnect _ _, s => .taken s.operate false fun _ => .none
  | .resetCommand _ _, s => .taken (s.resetWith .command s.areaA s.areaB) false fun _ => .none
  | .status _ _, s => .read s (.status s.statusReport)
  | .poll _ _, s => s.pollBody
  | .readGroup _ _ g, s => s.readGroupBody g
  | .readReg _ _ selector number, s => s.readRegBody selector number
  | .surveyRead _ _ channel, s => s.surveyReadBody channel
  | .openGroup _ _ a, s => s.openBody a
  | .disband _ _ g, s => s.disbandBody g
  | .retire _ _ g, s => s.retireBody g
  | .moveGroup _ _ g target, s => s.moveBody g target
  | .setArea _ _ g area, s => s.setAreaBody g area
  | .haltGroup _ _ g, s => s.haltGroupBody g
  | .allHalt _ _, s => .taken s.controlAll false fun _ => .count (s.countControl false)
  | .releaseHalt _ _ g, s => s.releaseHaltBody g
  | .floorClear _ _ channel, s => s.floorClearBody channel
  | .setChannel _ _ a, s => s.setChannelBody a
  | .setDevice _ _ a, s => s.setDeviceBody a
  | .loadCurve _ _ first _ values, s => .taken (s.writeCurve first values) (curveClamped first values) fun _ => .none
  | .setPairing _ _ a, s => s.setPairingBody a
  | .store _ _, s => .taken s.startStore false fun _ => .none
  | .clearAttention _ _ mask, s => .taken (s.clearItems mask) false fun u => .attention u.attention
  | _, s => .read s .none

/-- An event moves the clock, has its effect, and settles what is left. -/
theorem exec_event {i : Instr} {t : Instant} {f : State → State} (s : State) (h : eventEffect i = some (t, f)) :
    exec i s = .next (f (s.tick t)).finish := by
  cases i <;> simp only [eventEffect, Option.some.injEq, Prod.mk.injEq, reduceCtorEq] at h <;>
    obtain ⟨rfl, rfl⟩ := h <;> rfl

/-- R14, R17: an uplink frame is an event whose effect is Intake's. -/
theorem exec_uplink (k : UplinkKind) (t : Instant) (c : Chan) (f : UplinkFrame) (s : State) :
    exec (uplinkCommand k t c f) s = .next (uplink k c f (s.tick t)).finish := by
  cases k <;> rfl

/-- R184: a command of the port is its body behind the judgement of its frame. -/
theorem exec_port {i : Instr} {t : Instant} {n : Nat} {k : HostCommand} (s : State)
    (h : portCommand i = some (t, n, k)) : exec i s = hostFrame k t n (portBody i) s := by
  cases i with
  | loadCurve t' n' first count values =>
    simp only [portCommand] at h
    split at h
    · next hcount =>
      simp only [Option.some.injEq, Prod.mk.injEq] at h
      obtain ⟨rfl, rfl, rfl⟩ := h
      exact if_pos hcount
    · cases h
  | _ =>
    simp only [portCommand, Option.some.injEq, Prod.mk.injEq, reduceCtorEq] at h <;>
      (obtain ⟨rfl, rfl, rfl⟩ := h; rfl)

/-- The shape of every command. -/
theorem exec_shape (i : Instr) (s : State) :
    (∃ t f, eventEffect i = some (t, f)) ∨ (∃ t n k, portCommand i = some (t, n, k))
      ∨ ((∃ t n k l, i = .malformedFrame t n k l) ∨ ∃ t n, i = .fillerTransaction t n)
        ∧ (∃ t n, exec i s = .next ((s.tick t).collect n))
      ∨ ((∃ t n k l, i = .malformedFrame t n k l) ∨ ∃ t n f k v, i = .loadCurve t n f k v)
        ∧ ∃ t n code, exec i s = .next ((s.begun t n).answer code .malformed .none) := by
  cases i with
  | fillerTransaction t n => exact .inr (.inr (.inl ⟨.inr ⟨t, n, rfl⟩, t, n, rfl⟩))
  | malformedFrame t n code stated =>
    by_cases hcode : code = 0
    · exact .inr (.inr (.inl ⟨.inl ⟨_, _, _, _, rfl⟩, t, n, if_pos hcode⟩))
    · exact .inr (.inr (.inr ⟨.inl ⟨_, _, _, _, rfl⟩, t, n, code, if_neg hcode⟩))
  | loadCurve t n first count values =>
    by_cases hcount : count = values.length
    · exact .inr (.inl ⟨t, n, _, if_pos hcount⟩)
    · exact .inr (.inr (.inr ⟨.inr ⟨_, _, _, _, _, rfl⟩, t, n, 20, if_neg hcount⟩))
  | _ => first | exact .inl ⟨_, _, rfl⟩ | exact .inr (.inl ⟨_, _, _, rfl⟩)

/-! ### The port's own operations -/

@[simp] theorem answer_quiet {code : Nat} {st : Status} {p : Payload} {s : State} :
    (s.answer code st p).Quiet ↔ s.Quiet := Iff.rfl

/-- R173, R183: a transaction's own part changes the clock, the holding place and the silence measurement. -/
theorem begun_eq (t : Instant) (n : Nat) (s : State) :
    s.begun t n = { s with
      now := max s.now t
      response := s.response.map fun r => if r.length ≤ n then { r with read := true } else r
      silenceSince := if s.mode = .operate then some (max s.now t) else s.silenceSince } := by
  unfold State.begun State.hostHeard
  split
  · next h => simp only [State.collect, State.tick] at h ⊢; rw [if_pos h]
  · next h => simp only [State.collect, State.tick] at h ⊢; rw [if_neg h]

@[simp] theorem begun_now (t : Instant) (n : Nat) (s : State) : (s.begun t n).now = max s.now t := by simp [begun_eq]
@[simp] theorem begun_mode (t : Instant) (n : Nat) (s : State) : (s.begun t n).mode = s.mode := by simp [begun_eq]
@[simp] theorem begun_storing (t : Instant) (n : Nat) (s : State) : (s.begun t n).storing = s.storing := by
  simp [begun_eq]
@[simp] theorem begun_slots (t : Instant) (n : Nat) (s : State) : (s.begun t n).slots = s.slots := by simp [begun_eq]
@[simp] theorem begun_table (t : Instant) (n : Nat) (s : State) : (s.begun t n).table = s.table := by simp [begun_eq]
@[simp] theorem begun_chans (t : Instant) (n : Nat) (s : State) : (s.begun t n).chans = s.chans := by simp [begun_eq]
@[simp] theorem begun_device (t : Instant) (n : Nat) (s : State) : (s.begun t n).device = s.device := by
  simp [begun_eq]
@[simp] theorem begun_pairings (t : Instant) (n : Nat) (s : State) : (s.begun t n).pairings = s.pairings := by
  simp [begun_eq]
@[simp] theorem begun_attention (t : Instant) (n : Nat) (s : State) : (s.begun t n).attention = s.attention := by
  simp [begun_eq]
@[simp] theorem begun_profile (t : Instant) (n : Nat) (s : State) : (s.begun t n).profile = s.profile := by
  simp [begun_eq]
@[simp] theorem begun_profileValid (t : Instant) (n : Nat) (s : State) :
    (s.begun t n).profileValid = s.profileValid := by simp [begun_eq]
@[simp] theorem begun_startupExpiry (t : Instant) (n : Nat) (s : State) :
    (s.begun t n).startupExpiry = s.startupExpiry := by simp [begun_eq]
@[simp] theorem begun_areaA (t : Instant) (n : Nat) (s : State) : (s.begun t n).areaA = s.areaA := by simp [begun_eq]
@[simp] theorem begun_areaB (t : Instant) (n : Nat) (s : State) : (s.begun t n).areaB = s.areaB := by simp [begun_eq]
@[simp] theorem begun_examine (t : Instant) (n : Nat) (s : State) : (s.begun t n).examine = s.examine := by
  simp [begun_eq]
@[simp] theorem begun_pending (t : Instant) (n : Nat) (s : State) : (s.begun t n).pending = s.pending := by
  simp [begun_eq]
@[simp] theorem chan_begun (t : Instant) (n : Nat) (s : State) (c : Chan) : (s.begun t n).chan c = s.chan c :=
  chan_congr (begun_chans t n s) c
@[simp] theorem slot_begun (t : Instant) (n : Nat) (s : State) (i : SlotId) : (s.begun t n).slot i = s.slot i :=
  slot_congr (begun_slots t n s) i
@[simp] theorem group_begun (t : Instant) (n : Nat) (s : State) (i : SlotId) : (s.begun t n).group i = s.group i :=
  group_congr (begun_slots t n s) i
@[simp] theorem entry_begun (t : Instant) (n : Nat) (s : State) (r : Radio) : (s.begun t n).entry r = s.entry r := by
  simp [State.entry]
@[simp] theorem slotOfCall_begun (t : Instant) (n : Nat) (s : State) (k : Nat) :
    (s.begun t n).slotOfCall k = s.slotOfCall k := by simp [State.slotOfCall]
@[simp] theorem namedSlot_begun (t : Instant) (n : Nat) (s : State) (g : GroupField) :
    (s.begun t n).namedSlot g = s.namedSlot g := by simp [State.namedSlot]

/-! ### Keeping a property through a command -/

/-- What a body leaves behind has a property; a refusal leaves nothing. -/
def Leaves (P : State → Prop) : Verdict → Prop
  | .refused _ _ => True
  | .read u _ => P u
  | .taken u _ _ => P u

theorem Leaves.mono {P Q : State → Prop} {v : Verdict} (h : Leaves P v) (hPQ : ∀ u, P u → Q u) : Leaves Q v := by
  cases v with
  | refused => trivial
  | read u p => exact hPQ u h
  | taken u clamped p => exact hPQ u h

/-- R191: a command on one group leaves what its act leaves for the group that the command names. -/
theorem leaves_onGroup {P : State → Prop} {s : State} {g : GroupField} {fields : List (Option Reason)}
    {act : SlotId → Machine.Group → Verdict} (h : ∀ i x, s.group i = some x → Leaves P (act i x)) :
    Leaves P (s.onGroup g fields act) := by
  unfold State.onGroup
  split
  · trivial
  · split
    · trivial
    · split
      · trivial
      · next i x hx => exact h _ _ hx

/-- What a command answers with: an event's effect and what is left to settle; a frame's refusal, or what its body leaves;
or the port's own part alone. -/
inductive Answered (i : Instr) (s : State) : State → Prop
  | event {t f} (h : eventEffect i = some (t, f)) : Answered i s (f (s.tick t)).finish
  | turnedAway {t n k st} (h : portCommand i = some (t, n, k)) (hj : k.judge n (s.begun t n) = some st) :
      Answered i s ((s.begun t n).answer k.code st .none)
  | body {t n k} (h : portCommand i = some (t, n, k)) (hj : k.judge n (s.begun t n) = none) :
      Answered i s ((portBody i (s.begun t n)).apply k.code (s.begun t n))
  | filler {t n} (h : (∃ t n k l, i = .malformedFrame t n k l) ∨ ∃ t n, i = .fillerTransaction t n) :
      Answered i s ((s.tick t).collect n)
  | malformed {t n code} (h : (∃ t n k l, i = .malformedFrame t n k l) ∨ ∃ t n f k v, i = .loadCurve t n f k v) :
      Answered i s ((s.begun t n).answer code .malformed .none)

theorem exec_answered {i : Instr} {s u : State} (hexec : exec i s = .next u) : Answered i s u := by
  rcases exec_shape i s with ⟨t, f, hf⟩ | ⟨t, n, k, hk⟩ | ⟨hi, t, n, hc⟩ | ⟨hi, t, n, code, hc⟩
  · rw [exec_event s hf] at hexec
    exact Host.Outcome.next.inj hexec ▸ .event hf
  · rw [exec_port s hk] at hexec
    unfold hostFrame at hexec
    split at hexec
    · next hj => exact Host.Outcome.next.inj hexec ▸ .turnedAway hk hj
    · next hj => exact Host.Outcome.next.inj hexec ▸ .body hk hj
  · rw [hc] at hexec
    exact Host.Outcome.next.inj hexec ▸ .filler hi
  · rw [hc] at hexec
    exact Host.Outcome.next.inj hexec ▸ .malformed hi

/-- A property that answers and the end of a command keep holds of what a verdict makes of a state that has it. -/
theorem apply_keeps {P : State → Prop} (hanswer : ∀ s code st p, P s → P (s.answer code st p))
    (hfinish : ∀ s, P s → P s.finish) {v : Verdict} {s : State} (code : Nat) (hs : P s) (hv : Leaves P v) :
    P (v.apply code s) := by
  cases v with
  | refused r p => exact hanswer _ _ _ _ hs
  | read u p => exact hanswer _ _ _ _ hv
  | taken u clamped p => exact hanswer _ _ _ _ (hfinish _ hv)

/-- A property that the clock, the holding place, the command's own effect or body, and the end of a command keep is kept
by the command. -/
theorem exec_keeps {P : State → Prop} (htick : ∀ s t, P s → P (s.tick t)) (hcollect : ∀ s n, P s → P (s.collect n))
    (hheard : ∀ s, P s → P s.hostHeard) (hanswer : ∀ s code st p, P s → P (s.answer code st p))
    (hfinish : ∀ s, P s → P s.finish) {i : Instr} (hevent : ∀ t f, eventEffect i = some (t, f) → ∀ s, P s → P (f s))
    (hbody : (portCommand i).isSome = true → ∀ s, P s → Leaves P (portBody i s)) {s u : State}
    (hexec : exec i s = .next u) (h : P s) : P u := by
  have hbegun : ∀ t n, P (s.begun t n) := fun t n => hheard _ (hcollect _ _ (htick _ _ h))
  cases exec_answered hexec with
  | event hf => exact hfinish _ (hevent _ _ hf _ (htick _ _ h))
  | turnedAway hk hj => exact hanswer _ _ _ _ (hbegun _ _)
  | body hk hj => exact apply_keeps hanswer hfinish _ (hbegun _ _) (hbody (by simp [hk]) _ (hbegun _ _))
  | filler hi => exact hcollect _ _ (htick _ _ h)
  | malformed hi => exact hanswer _ _ _ _ (hbegun _ _)

/-- A property of states that does not look at the queue and that every command keeps is kept by every step. -/
theorem step_keeps {P : State → Prop} (hqueue : ∀ s l, P s → P { s with pending := l })
    (hexec : ∀ i s u, exec i s = .next u → P s → P u) {s u : State} (hstep : step s = .next u) (h : P s) : P u := by
  unfold step at hstep
  split at hstep
  · exact Host.Outcome.next.inj hstep ▸ h
  · exact hexec _ _ _ hstep (hqueue _ _ h)

/-! ### The step -/

/-- Settles O1: both clauses are the step's definition at a queue. -/
theorem stepRunsFrontCommand : Obligations.StepRunsFrontCommand :=
  ⟨fun c rest s h => by rw [step, h], fun s h => by rw [step, h]⟩

end Sys2Proof.CommandProofs
end

section
/-!
The device's own part of the state (clock, mode, timers, profile, settings in force, line levels, holding place, queue):
which effects and bodies change it at all, and what they make of it. The mode changes, the writers of each record and the
soundness of the timers follow.
-/
namespace Sys2Proof.DeviceProofs
open Sys2Proof Sys2Proof.Machine Sys2Proof.Machine.Laws Sys2Proof.CommandProofs

/-! ### Uplink frames -/

@[simp] theorem releaseHolds_host (s : State) (r : Radio) : hostPart (s.releaseHolds r) = hostPart s := rfl

@[simp] theorem register_host (s : State) (c : Chan) (f : UplinkFrame) (k : RadioKind) :
    hostPart (s.register c f k) = hostPart s := by
  unfold State.register
  split <;> simp

@[simp] theorem reregister_host (s : State) (c : Chan) (f : UplinkFrame) (k : RadioKind) (e : RegEntry) :
    hostPart (s.reregister c f k e) = hostPart s := by
  unfold State.reregister
  simp only [releaseHolds_host, channelFrame_host]
  split
  · simp
  · split <;> simp

@[simp] theorem locoUpdate_host (s : State) (i : SlotId) (f : UplinkFrame) :
    hostPart (s.locoUpdate i f) = hostPart s := by
  unfold State.locoUpdate
  dsimp only
  split <;> simp

@[simp] theorem odometerUpdate_host (s : State) (i : SlotId) (f : UplinkFrame) :
    hostPart (s.odometerUpdate i f) = hostPart s := by simp [State.odometerUpdate]

@[simp] theorem takeOrder_host (s : State) (i : SlotId) (g : Machine.Group) (o : Order) :
    hostPart (s.takeOrder i g o) = hostPart s := by
  unfold State.takeOrder
  repeat' split
  all_goals simp

@[simp] theorem confirmOrder_host (s : State) (i : SlotId) (o : Order) (n : Nat) :
    hostPart (s.confirmOrder i o n) = hostPart s := by simp [State.confirmOrder]

@[simp] theorem lateOrderAck_host (s : State) (i : SlotId) (n : Nat) : hostPart (s.lateOrderAck i n) = hostPart s := by
  unfold State.lateOrderAck
  repeat' split
  all_goals simp

@[simp] theorem talkTake_host (s : State) (i : SlotId) (c : Chan) (r : Radio) :
    hostPart (s.talkTake i c r) = hostPart s := by
  unfold State.talkTake
  repeat' split
  all_goals simp

@[simp] theorem admitJoin_host (s : State) (i : SlotId) (g : Machine.Group) (r : Radio) :
    hostPart (s.admitJoin i g r) = hostPart s := by simp [State.admitJoin]

@[simp] theorem startJoin_host (s : State) (i : SlotId) (r : Radio) : hostPart (s.startJoin i r) = hostPart s := by
  simp [State.startJoin]

@[simp] theorem resumeBeat_host (s : State) (g : Machine.Group) (st : GroupState) :
    hostPart (s.resumeBeat g st) = hostPart s := by
  unfold State.resumeBeat
  dsimp only
  repeat' split
  all_goals simp

@[simp] theorem resumeOld_host (s : State) (g : Machine.Group) : hostPart (s.resumeOld g) = hostPart s := by
  unfold State.resumeOld
  split <;> simp

/-- The blocks that take a member's frame keep the device's part. -/
@[simp] theorem memberAct_host (k : UplinkKind) (f : UplinkFrame) (i : SlotId) (s : State) :
    hostPart (memberAct k f i s) = hostPart s := by
  cases k <;> simp only [memberAct]
  case checkIn => unfold State.checkInAct; repeat' split
                  all_goals simp
  case order => unfold State.orderAct; repeat' split
                all_goals simp
  case orderAck => unfold State.orderAckAct; repeat' split
                   all_goals simp
  case haltAck => unfold State.haltAckAct; repeat' split
                  all_goals simp
  case talkReq => unfold State.talkReqAct; repeat' split
                  all_goals simp
  case talkEnd => unfold State.talkEndAct; repeat' split
                  all_goals simp
  case admitFrame => unfold State.admitAct; repeat' split
                     all_goals simp
  case refuse => unfold State.refuseAct; repeat' split
                 all_goals simp
  case leave => unfold State.leaveAct; repeat' split
                all_goals simp
  case hand => unfold State.handAct; dsimp only; repeat' split
               all_goals simp
  case resume => unfold State.resumeAct; repeat' split
                 all_goals simp
  case disband => unfold State.disbandAct; repeat' split
                  all_goals simp
  case attachAck => unfold State.attachAckAct; dsimp only; repeat' split
                    all_goals simp
  case releaseAck => unfold State.releaseAckAct; repeat' split
                     all_goals simp

@[simp] theorem entryAct_host (k : UplinkKind) (c : Chan) (f : UplinkFrame) (e : RegEntry) (s : State) :
    hostPart (entryAct k c f e s) = hostPart s := by
  unfold entryAct
  split
  · unfold State.joinAct
    repeat' split
    all_goals simp
  · rfl

@[simp] theorem takeKind_host (s : State) (k : UplinkKind) (i : SlotId) (role : Role) (f : UplinkFrame) :
    hostPart (s.takeKind k i role f (memberAct k f i)) = hostPart s := by
  unfold State.takeKind
  repeat' split
  all_goals simp

@[simp] theorem memberFrame_host (s : State) (k : UplinkKind) (c : Chan) (f : UplinkFrame) (i : SlotId) (role : Role) :
    hostPart (s.memberFrame k c f i role (memberAct k f i)) = hostPart s := by
  unfold State.memberFrame
  repeat' split
  all_goals simp

@[simp] theorem registeredFrame_host (s : State) (k : UplinkKind) (c : Chan) (f : UplinkFrame) (e : RegEntry) :
    hostPart (s.registeredFrame k c f e (entryAct k c f e)) = hostPart s := by
  unfold State.registeredFrame
  repeat' split
  all_goals simp

/-- An uplink frame keeps the device's part. -/
@[simp] theorem uplink_host (k : UplinkKind) (c : Chan) (f : UplinkFrame) (s : State) :
    hostPart (uplink k c f s) = hostPart s := by
  unfold uplink State.intake
  repeat' split
  all_goals simp

/-! ### Timers, instants and lines -/

@[simp] theorem raiseBeat_host (s : State) (i : SlotId) : hostPart (s.raiseBeat i) = hostPart s := by
  unfold State.raiseBeat
  dsimp only
  repeat' split
  all_goals simp

@[simp] theorem raiseMove_host (s : State) (i : SlotId) (c : Chan) (p : Phase) :
    hostPart (s.raiseMove i c p) = hostPart s := by
  unfold State.raiseMove
  repeat' split
  all_goals simp

@[simp] theorem beatInstant_host (s : State) (c : Chan) (p : Phase) : hostPart (s.beatInstant c p) = hostPart s := by
  unfold State.beatInstant
  repeat' split
  all_goals simp

@[simp] theorem periodCurrent_host (s : State) (c : Chan) (p : Nat) : hostPart (s.periodCurrent c p) = hostPart s := by
  unfold State.periodCurrent
  dsimp only
  split <;> simp

@[simp] theorem loseRelease_host (s : State) (i : SlotId) : hostPart (s.loseRelease i) = hostPart s := by
  simp [State.loseRelease]

@[simp] theorem loseOrder_host (s : State) (i : SlotId) (o : Order) : hostPart (s.loseOrder i o) = hostPart s := by
  unfold State.loseOrder
  dsimp only
  split <;> simp

@[simp] theorem setFinalHalt_host (s : State) (i : SlotId) (m : MoveRecord) :
    hostPart (s.setFinalHalt i m) = hostPart s := by
  unfold State.setFinalHalt
  dsimp only
  repeat' split
  all_goals simp

@[simp] theorem endMoveAbsent_host (s : State) (i : SlotId) (g : Machine.Group) (m : MoveRecord) :
    hostPart (s.endMoveAbsent i g m) = hostPart s := by
  have hcrew : hostPart ((g.crew.filter fun x => !m.checked.contains x.radio).foldl
      (fun s x => s.loseCrew i x.radio) s) = hostPart s := foldl_host (fun _ _ => loseCrew_host _ _ _) _ _
  unfold State.endMoveAbsent
  dsimp only
  simp only [mark_host, modGroup_host, orphanOn_host, withdraw_host]
  split <;> simp only [setFinalHalt_host, freePhase_host, withdraw_host, addCauses_host, modGroup_host, hcrew]

@[simp] theorem passCleared_host (held : Chan → Bool) (s : State) (c : Chan) :
    hostPart (s.passCleared held c) = hostPart s := ite_host (passFloor_host _ _) rfl

@[simp] theorem pruneQueue_host (s : State) (area : Area) (c : Chan) : hostPart (s.pruneQueue area c) = hostPart s := rfl

@[simp] theorem areaStop_host (s : State) (area : Area) : hostPart (s.areaStop area) = hostPart s := by
  unfold State.areaStop
  dsimp only
  rw [foldl_host (fun _ _ => passCleared_host _ _ _), foldl_host (fun _ _ => addCause_host _ _ _),
    foldl_host (fun _ _ => clearHolder_host _ _), foldl_host (fun _ _ => pruneQueue_host _ _ _)]

@[simp] theorem setReady_host (s : State) (c : Chan) (b : Bool) : hostPart (s.setReady c b) = hostPart s := rfl

@[simp] theorem takeLevel_host (s : State) (c : Chan) (l : Nat) (a : LevelAnswer) :
    hostPart (s.takeLevel c l a) = hostPart s := by
  unfold State.takeLevel
  repeat' split
  all_goals simp

/-! ### Writes of settings -/

@[simp] theorem turnLive_host (s : State) (c : Chan) : hostPart (s.turnLive c) = hostPart s := by
  unfold State.turnLive
  dsimp only
  split <;> simp

@[simp] theorem turnOff_host (s : State) (c : Chan) : hostPart (s.turnOff c) = hostPart s := by simp [State.turnOff]

@[simp] theorem modConfig_host (s : State) (c : Chan) (f : ChannelConfig → ChannelConfig) :
    hostPart (s.modConfig c f) = hostPart s := rfl

/-- R194: a write of a channel setting keeps the device's part. -/
@[simp] theorem writeChannel_host (s : State) (c : Chan) (w : ChannelWrite) :
    hostPart (s.writeChannel c w).1 = hostPart s := by
  cases w with
  | blank v =>
    simp only [State.writeChannel, State.writeBlank]
    unfold State.setBlank
    dsimp only
    repeat' split
    all_goals simp
  | survey on =>
    simp only [State.writeChannel]
    unfold State.setSurvey
    dsimp only
    repeat' split
    all_goals simp
  | mode m =>
    simp only [State.writeChannel]
    unfold State.writeMode
    repeat' split
    all_goals simp
  | _ => rfl

theorem writeAll_keeps {α : Type} {P : State → Prop} {w : α → State → State × Bool} (h : ∀ x s, P s → P (w x s).1)
    (l : List α) {s : State} (hs : P s) : P (writeAll w l s).1 := by
  induction l generalizing s with
  | nil => exact hs
  | cons x xs ih => exact ih (h x s hs)

@[simp] theorem writeChannels_host (s : State) (c : Chan) (l : List ChannelWrite) :
    hostPart (writeAll (State.writeChannel c) l s).1 = hostPart s :=
  writeAll_keeps (P := fun u => hostPart u = hostPart s) (fun w u h => (writeChannel_host u c w).trans h) l rfl

/-! ### Which commands reach the device's part -/

/-- The events that change the device's part beyond the clock. -/
def setsDevice : Instr → Bool
  | .startupTimerExpiry _ | .hostSilenceExpiry _ | .storeCompletion _ | .areaAsserted _ _ | .areaReleased _ _
  | .powerReset _ _ _ | .lineReset _ _ _ | .beginOperate _ _ | .reconnect _ _ | .resetCommand _ _ | .setDevice _ _ _
  | .loadCurve _ _ _ _ _ | .store _ _ => true
  | _ => false

/-- Every event but seven keeps the device's part. -/
theorem event_host {i : Instr} {t : Instant} {f : State → State} (h : eventEffect i = some (t, f))
    (hi : setsDevice i = false) (s : State) : hostPart (f s) = hostPart s := by
  cases i <;> simp only [eventEffect, Option.some.injEq, Prod.mk.injEq, reduceCtorEq, setsDevice] at h hi <;>
    obtain ⟨rfl, rfl⟩ := h
  case phaseInstant => dsimp only; unfold State.phaseInstant; split <;> simp
  case cycleStart =>
    dsimp only; unfold State.cycleStart; dsimp only
    repeat' split
    all_goals simp
  case answerWindowExpiry => dsimp only; unfold State.windowExpiry; split <;> simp
  case registrationExpiry => dsimp only; unfold State.registrationExpiry; split <;> simp
  case joinTimeout =>
    dsimp only; unfold State.joinExpiry
    repeat' split
    all_goals simp
  case attachTimeout => dsimp only; unfold State.attachExpiry; split <;> simp
  case releaseTimeout => dsimp only; unfold State.releaseExpiry; split <;> simp
  case orderTimeout =>
    dsimp only; unfold State.orderExpiry
    repeat' split
    all_goals simp
  case talkWindowExpiry => dsimp only; unfold State.talkExpiry; split <;> simp
  case moveWindowExpiry =>
    dsimp only; unfold State.moveExpiry
    repeat' split
    all_goals simp
  case samplingMoment =>
    dsimp only; unfold State.samplingMoment
    repeat' split
    all_goals simp
  case sampleDeadline =>
    dsimp only; unfold State.sampleDeadline
    repeat' split
    all_goals simp
  all_goals simp

/-- Every body but six keeps the device's part. -/
theorem body_host (i : Instr) (hi : setsDevice i = false) (s : State) :
    Leaves (fun u => hostPart u = hostPart s) (portBody i s) := by
  cases i <;> simp only [portBody, setsDevice, reduceCtorEq] at hi ⊢
  case poll => unfold State.pollBody; split <;> simp [Leaves, State.clearMark]
  case readGroup =>
    unfold State.readGroupBody
    repeat' split
    all_goals simp [Leaves]
  case readReg =>
    unfold State.readRegBody State.readRegAt
    repeat' split
    all_goals simp [Leaves]
  case surveyRead => unfold State.surveyReadBody; split <;> simp [Leaves]
  case openGroup =>
    unfold State.openBody
    repeat' split
    all_goals simp [Leaves]
  case disband => exact leaves_onGroup fun i x _ => by split <;> simp [Leaves]
  case retire => exact leaves_onGroup fun i x _ => by simp [Leaves, State.hostRetire]
  case moveGroup =>
    refine leaves_onGroup fun i x _ => ?_
    repeat' split
    all_goals simp [Leaves, State.startMove, State.disposeOld]
    split <;> split <;> simp
  case setArea =>
    refine leaves_onGroup fun i x _ => ?_
    split
    · simp [Leaves]
    · simp only [Leaves]
      unfold State.changeArea
      dsimp only
      repeat' split
      all_goals simp
  case haltGroup => exact leaves_onGroup fun i x _ => by simp [Leaves]
  case allHalt => exact foldl_host (fun _ _ => addCause_host _ _ _) _ _
  case releaseHalt =>
    unfold State.releaseHaltBody
    split
    · exact foldl_host (fun _ _ => removeCause_host _ _ _) _ _
    · exact leaves_onGroup fun i x _ => by simp [Leaves]
  case floorClear => unfold State.floorClearBody; split <;> simp [Leaves]
  case setChannel =>
    unfold State.setChannelBody
    repeat' split
    all_goals simp [Leaves]
  case setPairing =>
    unfold State.setPairingBody
    repeat' split
    all_goals simp [Leaves]
    rfl
  case clearAttention => rfl
  all_goals simp [Leaves]

/-! ### What the device's own commands make of it -/

/-- R194, R195: a write of a device setting changes the device settings, the slots and the table alone. -/
theorem markCrossed_host (s : State) (old new : Nat) (i : SlotId) : hostPart (s.markCrossed old new i) = hostPart s := by
  unfold State.markCrossed
  repeat' split
  all_goals simp

/-- The device's part but for the settings in force. -/
def clockPart (s : State) : Instant × DeviceMode × Option Instant × Option Instant × Profile × Bool × Option Profile
    × Bool × Bool × Option Response × List Instr :=
  (s.now, s.mode, s.startupExpiry, s.silenceSince, s.profile, s.profileValid, s.storing, s.areaA, s.areaB, s.response,
    s.pending)

theorem clockPart_of_host {s u : State} (h : hostPart u = hostPart s) : clockPart u = clockPart s := by
  simp only [hostPart, Prod.mk.injEq] at h
  simp [clockPart, h]

theorem device_of_host {s u : State} (h : hostPart u = hostPart s) : u.device = s.device := by
  simp only [hostPart, Prod.mk.injEq] at h
  simp [h]

@[simp] theorem modDevice_clock (s : State) (f : DeviceSettings → DeviceSettings) :
    clockPart (s.modDevice f) = clockPart s := rfl

@[simp] theorem writeCurve_clock (s : State) (first : Nat) (values : List Nat) :
    clockPart (s.writeCurve first values) = clockPart s := modDevice_clock s _

theorem setWarn_clock (s : State) (v : Nat) : clockPart (s.setWarn v) = clockPart s := by
  unfold State.setWarn
  dsimp only
  split
  · rfl
  · refine (clockPart_of_host ?_).trans (b := clockPart (s.modDevice fun d => { d with warn := v })) rfl
    rw [foldl_host (fun _ _ => judgeWarn_host _ _), foldl_host (fun _ _ => markCrossed_host _ _ _ _)]

theorem setRegExpiry_clock (s : State) (v : Nat) : clockPart (s.setRegExpiry v) = clockPart s := by
  unfold State.setRegExpiry
  dsimp only
  split <;> rfl

@[simp] theorem writeDevice_clock (w : DeviceWrite) (s : State) : clockPart (s.writeDevice w).1 = clockPart s := by
  cases w with
  | warn v => exact setWarn_clock s _
  | regExpiry v => exact setRegExpiry_clock s _
  | _ => rfl

@[simp] theorem writeDevices_clock (l : List DeviceWrite) (s : State) :
    clockPart (writeAll State.writeDevice l s).1 = clockPart s :=
  writeAll_keeps (P := fun u => clockPart u = clockPart s) (fun w u h => (writeDevice_clock w u).trans h) l rfl

@[simp] theorem reloadChannel_host (p : Profile) (s : State) (c : Chan) :
    hostPart (s.reloadChannel p c) = hostPart s := writeChannels_host s c _

/-- R178: a reload changes of the device's part the settings alone. -/
@[simp] theorem reload_clock (p : Profile) (s : State) : clockPart (s.reload p) = clockPart s := by
  have hchannels : hostPart (channels.foldl (State.reloadChannel p) s) = hostPart s :=
    foldl_host (reloadChannel_host p) _ _
  have hdevice := writeDevices_clock p.device.writes (channels.foldl (State.reloadChannel p) s)
  unfold State.reload
  dsimp only
  generalize (writeAll State.writeDevice p.device.writes (channels.foldl (State.reloadChannel p) s)).1 = u at hdevice ⊢
  exact hdevice.trans (clockPart_of_host hchannels)

@[simp] theorem controlAll_host (s : State) : hostPart s.controlAll = hostPart s :=
  foldl_host (fun _ _ => addCause_host _ _ _) _ _

/-- R178, step 1: the mode is taken and both timers stop. -/
def inFallback (s : State) : State := { s with mode := .fallback, startupExpiry := none, silenceSince := none }

/-- R178, steps 3 and 4: what an entry into FALLBACK does after the reload. -/
def afterReload (defaulted : Bool) (s : State) : State :=
  let s1 := if defaulted then s.attend .profileDefaulted else s
  let s2 := if s1.device.policy = .haltAll then s1.controlAll else s1
  { s2.attend .fallback with examine := true }

/-- R178: an entry into FALLBACK takes the mode, stops the timers, reloads, and does what follows. -/
theorem enterFallback_eq (s : State) :
    s.enterFallback = afterReload s.defaults
      (State.reload s.reloadSource (inFallback s)) := rfl

@[simp] theorem afterReload_host (defaulted : Bool) (s : State) : hostPart (afterReload defaulted s) = hostPart s := by
  have hattend : hostPart (if defaulted = true then s.attend .profileDefaulted else s) = hostPart s := by
    split <;> rfl
  unfold afterReload
  simp only [examine_host, attend_host]
  generalize (if defaulted = true then s.attend .profileDefaulted else s) = u at hattend ⊢
  split
  · exact (controlAll_host u).trans hattend
  · exact hattend

/-- R178: an entry into FALLBACK stops both timers and takes the mode; of the rest of the device's part it changes the
settings alone. -/
theorem enterFallback_clock (s : State) : clockPart s.enterFallback = clockPart (inFallback s) := by
  have hafter := clockPart_of_host (afterReload_host s.defaults (State.reload s.reloadSource (inFallback s)))
  exact (enterFallback_eq s ▸ hafter).trans (reload_clock s.reloadSource (inFallback s))


/-- What a command's own effect, an event's or a body's, can make of the device's part. -/
inductive DeviceChange : Instr → State → State → Prop
  | kept {i s u} (h : hostPart u = hostPart s) : DeviceChange i s u
  | startup {t s} (h : s.mode = .startup) : DeviceChange (.startupTimerExpiry t) s s.enterFallback
  | silence {t s} (h : s.mode = .operate) : DeviceChange (.hostSilenceExpiry t) s s.enterFallback
  | stored {t s u} (p : Profile)
      (h : clockPart u = clockPart { s with profile := p, profileValid := true, storing := none })
      (hd : u.device = s.device) : DeviceChange (.storeCompletion t) s u
  | asserted {t l s u} (h : hostPart u = hostPart (s.setLine l true)) : DeviceChange (.areaAsserted t l) s u
  | released {t l s u} (h : hostPart u = hostPart (s.setLine l false)) : DeviceChange (.areaReleased t l) s u
  | power {t a b s} : DeviceChange (.powerReset t a b) s (s.resetWith .power a b)
  | line {t a b s} : DeviceChange (.lineReset t a b) s (s.resetWith .line a b)
  | reset {t n s} : DeviceChange (.resetCommand t n) s (s.resetWith .command s.areaA s.areaB)
  | begin {t n s} : DeviceChange (.beginOperate t n) s s.operate
  | reconnect {t n s} : DeviceChange (.reconnect t n) s s.operate
  | setDevice {t n a s u} (h : clockPart u = clockPart s) : DeviceChange (.setDevice t n a) s u
  | loadCurve {t n f k v s u} (h : clockPart u = clockPart s) : DeviceChange (.loadCurve t n f k v) s u
  | store {t n s} : DeviceChange (.store t n) s s.startStore

theorem event_change {i : Instr} {t : Instant} {f : State → State} (h : eventEffect i = some (t, f)) (s : State) :
    DeviceChange i s (f s) := by
  by_cases hi : setsDevice i = false
  · exact .kept (event_host h hi s)
  cases i <;> simp only [eventEffect, Option.some.injEq, Prod.mk.injEq, reduceCtorEq, setsDevice, not_true] at h hi <;>
    obtain ⟨rfl, rfl⟩ := h
  case startupTimerExpiry =>
    dsimp only
    unfold State.startupExpires
    split
    · next hmode => exact .startup hmode.1
    · exact .kept rfl
  case hostSilenceExpiry =>
    dsimp only
    unfold State.silenceExpires
    split
    · next hmode => exact .silence hmode.1
    · exact .kept rfl
  case storeCompletion =>
    dsimp only
    unfold State.storeCompletes
    split
    · exact .kept rfl
    · next p _ => exact .stored p rfl rfl
  case areaAsserted =>
    dsimp only
    unfold State.lineAsserted
    split
    · exact .kept rfl
    · exact .asserted (areaStop_host _ _)
  case areaReleased =>
    dsimp only
    unfold State.lineReleased
    split
    · exact .released (foldl_host (fun _ _ => removeCause_host _ _ _) _ _)
    · exact .kept rfl
  case powerReset => exact .power
  case lineReset => exact .line

theorem body_change (i : Instr) (s : State) : Leaves (DeviceChange i s) (portBody i s) := by
  by_cases hi : setsDevice i = false
  · exact (body_host i hi s).mono fun u hu => .kept hu
  cases i <;> simp only [setsDevice, not_true] at hi <;> simp only [portBody]
  case setDevice t n a =>
    simp only [State.setDeviceBody]
    split
    · trivial
    · exact .setDevice (writeDevices_clock _ s)
  case loadCurve => exact .loadCurve (writeCurve_clock s _ _)
  case beginOperate => exact .begin
  case reconnect => exact .reconnect
  case resetCommand => exact .reset
  case store => exact .store
  all_goals exact .kept rfl

/-- A property of the device's part that a command's own change of it, the clock, the port and the end of a command keep is
kept by the command. -/
theorem exec_device {P : State → Prop} (hhost : ∀ s u, hostPart u = hostPart s → P s → P u)
    (htick : ∀ s t, P s → P (s.tick t)) (hcollect : ∀ s n, P s → P (s.collect n)) (hheard : ∀ s, P s → P s.hostHeard)
    (hanswer : ∀ s code st p, P s → P (s.answer code st p)) {i : Instr}
    (hchange : ∀ s u, DeviceChange i s u → P s → P u) {s u : State} (hexec : exec i s = .next u) (h : P s) : P u :=
  exec_keeps htick hcollect hheard hanswer (fun s h => hhost _ _ (finish_host s) h)
    (fun _ _ hf s h => hchange _ _ (event_change hf s) h) (fun _ s h => (body_change i s).mono fun _ hu => hchange _ _ hu h)
    hexec h

/-! ### No command stops the controller -/

/-- The queue, and a clock that is never turned back. -/
def Onward (s u : State) : Prop := u.pending = s.pending ∧ s.now ≤ u.now

theorem Onward.trans {s u v : State} (h : Onward s u) (h' : Onward u v) : Onward s v :=
  ⟨h'.1.trans h.1, h.2.trans h'.2⟩

theorem onward_of_clock {s u : State} (h : clockPart u = clockPart s) : Onward s u := by
  simp only [clockPart, Prod.mk.injEq] at h
  exact ⟨by simp [h], by simp [h]⟩

theorem onward_of_host {s u : State} (h : hostPart u = hostPart s) : Onward s u := onward_of_clock (clockPart_of_host h)

theorem onward_setLine (s : State) (l : AreaLine) (b : Bool) : Onward s (s.setLine l b) := by
  cases l <;> exact ⟨rfl, le_rfl⟩

theorem onward_enterFallback (s : State) : Onward s s.enterFallback :=
  Onward.trans (u := inFallback s) ⟨rfl, le_rfl⟩ (onward_of_clock (enterFallback_clock s))

theorem DeviceChange.onward {i : Instr} {s u : State} (h : DeviceChange i s u) : Onward s u := by
  cases h with
  | kept h => exact onward_of_host h
  | startup => exact onward_enterFallback s
  | silence => exact onward_enterFallback s
  | stored p h => exact Onward.trans (u := { s with profile := p, profileValid := true, storing := none }) ⟨rfl, le_rfl⟩ (onward_of_clock h)
  | asserted h => exact (onward_setLine s _ _).trans (onward_of_host h)
  | released h => exact (onward_setLine s _ _).trans (onward_of_host h)
  | setDevice h => exact onward_of_clock h
  | loadCurve h => exact onward_of_clock h
  | _ => exact ⟨rfl, le_rfl⟩

/-- Every command answers with a next state. -/
theorem exec_next (i : Instr) (s : State) : ∃ u, exec i s = .next u := by
  rcases exec_shape i s with ⟨t, f, hf⟩ | ⟨t, n, k, hk⟩ | ⟨-, t, n, hc⟩ | ⟨-, t, n, code, hc⟩
  · exact ⟨_, exec_event s hf⟩
  · rw [exec_port s hk]
    unfold hostFrame
    split <;> exact ⟨_, rfl⟩
  · exact ⟨_, hc⟩
  · exact ⟨_, hc⟩

/-- Settles O2: the three shapes of a command answer next, and each part of a command keeps the queue and the clock. -/
theorem everyCommandCompletes : Obligations.EveryCommandCompletes := by
  intro i s
  obtain ⟨u, hu⟩ := exec_next i s
  refine ⟨u, hu, exec_device (P := Onward s) ?_ ?_ ?_ ?_ ?_ ?_ hu ⟨rfl, le_rfl⟩⟩
  · exact fun v w hw h => h.trans (onward_of_host hw)
  · exact fun v t h => h.trans ⟨rfl, by simp⟩
  · exact fun v n h => h.trans ⟨rfl, le_rfl⟩
  · exact fun v h => h.trans (by unfold State.hostHeard; split <;> exact ⟨rfl, le_rfl⟩)
  · exact fun v code st p h => h.trans ⟨rfl, le_rfl⟩
  · exact fun v w hw h => h.trans hw.onward

/-! ### The mode timers and the valid mark -/

theorem deviceSound_of_clock {s u : State} (h : clockPart u = clockPart s) (hs : s.DeviceSound) : u.DeviceSound := by
  simp only [clockPart, Prod.mk.injEq] at h
  obtain ⟨-, hmode, hstartup, hsilence, -, hvalid, hstoring, -⟩ := h
  exact ⟨by rw [hstartup, hmode]; exact hs.startup, by rw [hsilence, hmode]; exact hs.silence,
    by rw [hstoring, hvalid]; exact hs.store⟩

theorem deviceSound_of_host {s u : State} (h : hostPart u = hostPart s) (hs : s.DeviceSound) : u.DeviceSound :=
  deviceSound_of_clock (clockPart_of_host h) hs

theorem deviceSound_setLine {s : State} (l : AreaLine) (b : Bool) (hs : s.DeviceSound) : (s.setLine l b).DeviceSound := by
  cases l <;> exact ⟨hs.startup, hs.silence, hs.store⟩

/-- R178: FALLBACK stops both timers, which run in no mode but STARTUP and OPERATE. -/
theorem deviceSound_enterFallback {s : State} (hs : s.DeviceSound) : s.enterFallback.DeviceSound :=
  deviceSound_of_clock (enterFallback_clock s) ⟨nofun, rfl, hs.store⟩

theorem deviceSound_resetWith (k : AttnItem) (a b : Bool) (s : State) : (s.resetWith k a b).DeviceSound :=
  ⟨fun _ => rfl, rfl, nofun⟩

theorem deviceSound_hostHeard {s : State} (hs : s.DeviceSound) : s.hostHeard.DeviceSound := by
  unfold State.hostHeard
  split
  · next hmode => exact ⟨hs.startup, by simp [hmode], hs.store⟩
  · exact hs

theorem DeviceChange.deviceSound {i : Instr} {s u : State} (h : DeviceChange i s u) (hs : s.DeviceSound) :
    u.DeviceSound := by
  cases h with
  | kept h => exact deviceSound_of_host h hs
  | startup => exact deviceSound_enterFallback hs
  | silence => exact deviceSound_enterFallback hs
  | stored p h => exact deviceSound_of_clock h ⟨hs.startup, hs.silence, nofun⟩
  | asserted h => exact deviceSound_of_host h (deviceSound_setLine _ _ hs)
  | released h => exact deviceSound_of_host h (deviceSound_setLine _ _ hs)
  | power => exact deviceSound_resetWith ..
  | line => exact deviceSound_resetWith ..
  | reset => exact deviceSound_resetWith ..
  | begin => exact ⟨nofun, rfl, hs.store⟩
  | reconnect => exact ⟨nofun, rfl, hs.store⟩
  | setDevice h => exact deviceSound_of_clock h hs
  | loadCurve h => exact deviceSound_of_clock h hs
  | store => exact ⟨hs.startup, hs.silence, fun _ => rfl⟩

/-- Settles O10: only the mode commands, the STORE and the resets touch the timers and the mark, and each leaves them
sound. -/
theorem deviceStaysSound : Obligations.DeviceStaysSound := by
  refine fun s u hs hstep => step_keeps (P := State.DeviceSound) (fun s l hs => ⟨hs.startup, hs.silence, hs.store⟩)
    (fun i s u hexec hs => exec_device ?_ ?_ ?_ ?_ ?_ ?_ hexec hs) hstep hs
  · exact fun s u hu hs => deviceSound_of_host hu hs
  · exact fun s t hs => ⟨hs.startup, hs.silence, hs.store⟩
  · exact fun s n hs => ⟨hs.startup, hs.silence, hs.store⟩
  · exact fun s hs => deviceSound_hostHeard hs
  · exact fun s code st p hs => ⟨hs.startup, hs.silence, hs.store⟩
  · exact fun s u hu hs => hu.deviceSound hs

/-! ### Who changes the mode -/

theorem mode_of_clock {s u : State} (h : clockPart u = clockPart s) : u.mode = s.mode := by
  simp only [clockPart, Prod.mk.injEq] at h
  exact h.2.1

theorem mode_of_host {s u : State} (h : hostPart u = hostPart s) : u.mode = s.mode := mode_of_clock (clockPart_of_host h)

@[simp] theorem setLine_mode (s : State) (l : AreaLine) (b : Bool) : (s.setLine l b).mode = s.mode := by cases l <;> rfl

@[simp] theorem enterFallback_mode (s : State) : s.enterFallback.mode = .fallback :=
  mode_of_clock (enterFallback_clock s)

/-- R171: the mode after a command's own change: as before, or by one of the seven. -/
theorem DeviceChange.mode {i : Instr} {s u : State} (h : DeviceChange i s u) :
    u.mode = s.mode ∨ (∃ t n, (i = .beginOperate t n ∨ i = .reconnect t n) ∧ u.mode = .operate)
      ∨ (u.mode = .fallback ∧ ((∃ t, i = .startupTimerExpiry t ∧ s.mode = .startup)
        ∨ ∃ t, i = .hostSilenceExpiry t ∧ s.mode = .operate))
      ∨ (u.mode = .startup ∧ ((∃ t a b, i = .powerReset t a b) ∨ (∃ t a b, i = .lineReset t a b)
          ∨ ∃ t n, i = .resetCommand t n)) := by
  cases h with
  | kept h => exact .inl (mode_of_host h)
  | startup h => exact .inr (.inr (.inl ⟨enterFallback_mode s, .inl ⟨_, rfl, h⟩⟩))
  | silence h => exact .inr (.inr (.inl ⟨enterFallback_mode s, .inr ⟨_, rfl, h⟩⟩))
  | stored p h => exact .inl (mode_of_clock (s := { s with profile := p, profileValid := true, storing := none }) h)
  | asserted h => exact .inl ((mode_of_host h).trans (setLine_mode ..))
  | released h => exact .inl ((mode_of_host h).trans (setLine_mode ..))
  | power => exact .inr (.inr (.inr ⟨rfl, .inl ⟨_, _, _, rfl⟩⟩))
  | line => exact .inr (.inr (.inr ⟨rfl, .inr (.inl ⟨_, _, _, rfl⟩)⟩))
  | reset => exact .inr (.inr (.inr ⟨rfl, .inr (.inr ⟨_, _, rfl⟩)⟩))
  | begin => exact .inr (.inl ⟨_, _, .inl rfl, rfl⟩)
  | reconnect => exact .inr (.inl ⟨_, _, .inr rfl, rfl⟩)
  | setDevice h => exact .inl (mode_of_clock h)
  | loadCurve h => exact .inl (mode_of_clock h)
  | store => exact .inl rfl

@[simp] theorem finish_mode (s : State) : s.finish.mode = s.mode := mode_of_host (finish_host s)

/-- A command of the port leaves the mode of the state it began with, or the mode that its own change makes. -/
theorem apply_mode {i : Instr} {s : State} (code : Nat) :
    ((portBody i s).apply code s).mode = s.mode
      ∨ ∃ w, DeviceChange i s w ∧ ((portBody i s).apply code s).mode = w.mode := by
  have hchange := body_change i s
  revert hchange
  cases portBody i s with
  | refused r p => exact fun _ => .inl rfl
  | read w p => exact fun hw => .inr ⟨w, hw, rfl⟩
  | taken w clamped p => exact fun hw => .inr ⟨w, hw, finish_mode w⟩

/-- R171, R184: BEGIN is taken in STARTUP alone, RECONNECT in FALLBACK alone. -/
theorem mode_of_judged {t : Instant} {n : Nat} {k : HostCommand} {s : State} {i : Instr}
    (h : portCommand i = some (t, n, k)) (hj : k.judge n (s.begun t n) = none) :
    ((∃ t n, i = .beginOperate t n) → s.mode = .startup) ∧ ((∃ t n, i = .reconnect t n) → s.mode = .fallback) := by
  have hrule : k.rule.judge s.mode = none := by
    unfold HostCommand.judge at hj
    split at hj
    · cases hj
    · split at hj
      · cases hj
      · simpa using hj
  constructor <;> rintro ⟨t', n', rfl⟩ <;>
    simp only [portCommand, Option.some.injEq, Prod.mk.injEq] at h <;> obtain ⟨-, -, rfl⟩ := h <;>
    revert hrule <;> cases s.mode <;> simp [ModeRule.judge]

/-- Settles O13: the change of mode is the command's own, and the port takes BEGIN and RECONNECT in one mode each. -/
theorem modeChanges : Obligations.ModeChanges := by
  intro i s u hexec hne
  have hown : ∃ v w : State, v.mode = s.mode ∧ DeviceChange i v w ∧ u.mode = w.mode
      ∧ ((∃ t n, i = .beginOperate t n) → s.mode = .startup)
      ∧ ((∃ t n, i = .reconnect t n) → s.mode = .fallback) := by
    cases exec_answered hexec with
    | @event t f hf =>
      refine ⟨s.tick t, f (s.tick t), rfl, event_change hf _, finish_mode _, ?_, ?_⟩ <;>
        rintro ⟨t, n, rfl⟩ <;> cases hf
    | turnedAway hk hj => exact absurd (by simp [State.answer]) hne
    | body hk hj =>
      rcases apply_mode (i := i) (s := s.begun _ _) _ with hsame | ⟨w, hw, hmode⟩
      · exact absurd (hsame.trans (begun_mode ..)) hne
      · exact ⟨_, w, begun_mode .., hw, hmode, mode_of_judged hk hj⟩
    | filler hi => exact absurd rfl hne
    | malformed hi => exact absurd (by simp [State.answer]) hne
  obtain ⟨v, w, hv, hw, hu, hbegin, hreconnect⟩ := hown
  rw [hu] at hne ⊢
  rw [← hv]
  rw [← hv] at hne hbegin hreconnect
  rcases hw.mode with hsame | ⟨t, n, rfl | rfl, hop⟩ | ⟨hfb, ⟨t, rfl, hm⟩ | ⟨t, rfl, hm⟩⟩ | hreset
  · exact absurd hsame hne
  · exact .inl ⟨t, n, rfl, hbegin ⟨t, n, rfl⟩, hop⟩
  · exact .inr (.inr (.inr (.inl ⟨t, n, rfl, hreconnect ⟨t, n, rfl⟩, hop⟩)))
  · exact .inr (.inl ⟨t, rfl, hm, hfb⟩)
  · exact .inr (.inr (.inl ⟨t, rfl, hm, hfb⟩))
  · exact .inr (.inr (.inr (.inr hreset)))

/-! ### Who writes the records of the device -/

theorem profile_of_clock {s u : State} (h : clockPart u = clockPart s) : u.profile = s.profile := by
  simp only [clockPart, Prod.mk.injEq] at h
  simp [h]

theorem response_of_clock {s u : State} (h : clockPart u = clockPart s) : u.response = s.response := by
  simp only [clockPart, Prod.mk.injEq] at h
  simp [h]

theorem areas_of_clock {s u : State} (h : clockPart u = clockPart s) : u.areaA = s.areaA ∧ u.areaB = s.areaB := by
  simp only [clockPart, Prod.mk.injEq] at h
  simp [h]

@[simp] theorem hostHeard_profile (s : State) : s.hostHeard.profile = s.profile := by
  unfold State.hostHeard; split <;> rfl
@[simp] theorem hostHeard_device (s : State) : s.hostHeard.device = s.device := by
  unfold State.hostHeard; split <;> rfl
@[simp] theorem hostHeard_areaA (s : State) : s.hostHeard.areaA = s.areaA := by
  unfold State.hostHeard; split <;> rfl
@[simp] theorem hostHeard_areaB (s : State) : s.hostHeard.areaB = s.areaB := by
  unfold State.hostHeard; split <;> rfl
@[simp] theorem setLine_profile (s : State) (l : AreaLine) (b : Bool) : (s.setLine l b).profile = s.profile := by
  cases l <;> rfl
@[simp] theorem setLine_device (s : State) (l : AreaLine) (b : Bool) : (s.setLine l b).device = s.device := by
  cases l <;> rfl
@[simp] theorem setLine_response (s : State) (l : AreaLine) (b : Bool) : (s.setLine l b).response = s.response := by
  cases l <;> rfl

theorem DeviceChange.profile {i : Instr} {s u : State} (h : DeviceChange i s u) :
    u.profile = s.profile ∨ ∃ t, i = .storeCompletion t := by
  cases h with
  | kept h => exact .inl (profile_of_clock (clockPart_of_host h))
  | startup => exact .inl (profile_of_clock (s := inFallback s) (enterFallback_clock s))
  | silence => exact .inl (profile_of_clock (s := inFallback s) (enterFallback_clock s))
  | stored p h => exact .inr ⟨_, rfl⟩
  | asserted h => exact .inl ((profile_of_clock (clockPart_of_host h)).trans (by simp))
  | released h => exact .inl ((profile_of_clock (clockPart_of_host h)).trans (by simp))
  | setDevice h => exact .inl (profile_of_clock h)
  | loadCurve h => exact .inl (profile_of_clock h)
  | _ => exact .inl rfl

/-- The commands that can change a device setting. -/
def WritesDevice (i : Instr) : Prop :=
  (∃ t n a, i = .setDevice t n a) ∨ (∃ t n f k v, i = .loadCurve t n f k v) ∨ (∃ t, i = .startupTimerExpiry t)
    ∨ (∃ t, i = .hostSilenceExpiry t) ∨ (∃ t a b, i = .powerReset t a b) ∨ (∃ t a b, i = .lineReset t a b)
    ∨ ∃ t n, i = .resetCommand t n

theorem DeviceChange.device {i : Instr} {s u : State} (h : DeviceChange i s u) :
    u.device = s.device ∨ WritesDevice i := by
  cases h with
  | kept h => exact .inl (device_of_host h)
  | stored p h hd => exact .inl hd
  | asserted h => exact .inl ((device_of_host h).trans (by simp))
  | released h => exact .inl ((device_of_host h).trans (by simp))
  | begin => exact .inl rfl
  | reconnect => exact .inl rfl
  | store => exact .inl rfl
  | _ => exact .inr (by simp [WritesDevice])

/-- The commands that can change the held area levels. -/
def WritesAreas (i : Instr) : Prop :=
  (∃ t l, i = .areaAsserted t l) ∨ (∃ t l, i = .areaReleased t l) ∨ (∃ t a b, i = .powerReset t a b)
    ∨ ∃ t a b, i = .lineReset t a b

theorem DeviceChange.areas {i : Instr} {s u : State} (h : DeviceChange i s u) :
    (u.areaA = s.areaA ∧ u.areaB = s.areaB) ∨ WritesAreas i := by
  cases h with
  | kept h => exact .inl (areas_of_clock (clockPart_of_host h))
  | startup => exact .inl (areas_of_clock (s := inFallback s) (enterFallback_clock s))
  | silence => exact .inl (areas_of_clock (s := inFallback s) (enterFallback_clock s))
  | stored p h => exact .inl (areas_of_clock (s := { s with profile := p, profileValid := true, storing := none }) h)
  | reset => exact .inl ⟨rfl, rfl⟩
  | begin => exact .inl ⟨rfl, rfl⟩
  | reconnect => exact .inl ⟨rfl, rfl⟩
  | store => exact .inl ⟨rfl, rfl⟩
  | setDevice h => exact .inl (areas_of_clock h)
  | loadCurve h => exact .inl (areas_of_clock h)
  | _ => exact .inr (by simp [WritesAreas])

theorem DeviceChange.response {i : Instr} {s u : State} (h : DeviceChange i s u) :
    u.response = s.response ∨ (portCommand i).isSome = true ∨ (∃ t n f k v, i = .loadCurve t n f k v)
      ∨ (∃ t a b, i = .powerReset t a b) ∨ ∃ t a b, i = .lineReset t a b := by
  cases h with
  | kept h => exact .inl (response_of_clock (clockPart_of_host h))
  | startup => exact .inl (response_of_clock (s := inFallback s) (enterFallback_clock s))
  | silence => exact .inl (response_of_clock (s := inFallback s) (enterFallback_clock s))
  | stored p h => exact .inl (response_of_clock (s := { s with profile := p, profileValid := true, storing := none }) h)
  | asserted h => exact .inl ((response_of_clock (clockPart_of_host h)).trans (by simp))
  | released h => exact .inl ((response_of_clock (clockPart_of_host h)).trans (by simp))
  | power => exact .inr (.inr (.inr (.inl ⟨_, _, _, rfl⟩)))
  | line => exact .inr (.inr (.inr (.inr ⟨_, _, _, rfl⟩)))
  | loadCurve => exact .inr (.inr (.inl ⟨_, _, _, _, _, rfl⟩))
  | _ => exact .inr (.inl rfl)

/-- A record of the device that the clock, the port and the settlements leave alone changes only by a command whose own
change reaches it. -/
theorem record_kept {α : Type} {π : State → α} (hhost : ∀ s u, hostPart u = hostPart s → π u = π s)
    (htick : ∀ s t, π (s.tick t) = π s) (hcollect : ∀ s n, π (s.collect n) = π s) (hheard : ∀ s, π s.hostHeard = π s)
    (hanswer : ∀ s code st p, π (s.answer code st p) = π s) {i : Instr} {W : Prop}
    (hchange : ∀ s u, DeviceChange i s u → π u = π s ∨ W) {s u : State} (hexec : exec i s = .next u)
    (hne : π u ≠ π s) : W := by
  by_contra hW
  refine hne (exec_device (P := fun v => π v = π s) ?_ ?_ ?_ ?_ ?_ ?_ hexec rfl)
  · exact fun v w hw h => (hhost v w hw).trans h
  · exact fun v t h => (htick v t).trans h
  · exact fun v n h => (hcollect v n).trans h
  · exact fun v h => (hheard v).trans h
  · exact fun v code st p h => (hanswer v code st p).trans h
  · exact fun v w hw h => ((hchange v w hw).resolve_right hW).trans h

/-- R183: only a transaction or a reset reaches the holding place. -/
theorem response_kept {i : Instr} {s u : State} (hexec : exec i s = .next u) (hne : u.response ≠ s.response) :
    (portCommand i).isSome = true ∨ (∃ t n, i = .fillerTransaction t n) ∨ (∃ t n k l, i = .malformedFrame t n k l)
      ∨ (∃ t n f k v, i = .loadCurve t n f k v) ∨ (∃ t a b, i = .powerReset t a b) ∨ ∃ t a b, i = .lineReset t a b := by
  cases exec_answered hexec with
  | @event t f hf =>
    rw [response_of_clock (clockPart_of_host (finish_host (f (s.tick t))))] at hne
    rcases (event_change hf (s.tick t)).response with hsame | hport | hcurve | hpower | hline
    · exact absurd hsame hne
    · exact .inl hport
    · exact .inr (.inr (.inr (.inl hcurve)))
    · exact .inr (.inr (.inr (.inr (.inl hpower))))
    · exact .inr (.inr (.inr (.inr (.inr hline))))
  | turnedAway hk hj => exact .inl (by simp [hk])
  | body hk hj => exact .inl (by simp [hk])
  | filler hi => exact hi.elim (fun h => .inr (.inr (.inl h))) fun h => .inr (.inl h)
  | malformed hi => exact hi.elim (fun h => .inr (.inr (.inl h))) fun h => .inr (.inr (.inr (.inl h)))

/-- Settles O14: each record follows the command's own change of it. -/
theorem whoWritesWhat : Obligations.WhoWritesWhat := by
  intro i s u hexec
  refine ⟨fun hne => ?_, fun hne => ?_, response_kept hexec, fun hne => ?_⟩
  · exact record_kept (π := State.profile) (fun _ _ h => profile_of_clock (clockPart_of_host h)) (fun _ _ => rfl)
      (fun _ _ => rfl) hostHeard_profile (fun _ _ _ _ => rfl) (fun _ _ h => h.profile) hexec hne
  · exact record_kept (π := State.device) (fun _ _ h => device_of_host h) (fun _ _ => rfl) (fun _ _ => rfl)
      hostHeard_device (fun _ _ _ _ => rfl) (fun _ _ h => h.device) hexec hne
  · refine record_kept (π := fun v => (v.areaA, v.areaB)) (fun _ _ h => ?_) (fun _ _ => rfl) (fun _ _ => rfl)
      (fun _ => by simp) (fun _ _ _ _ => rfl) (fun _ _ h => ?_) hexec ?_
    · simp [areas_of_clock (clockPart_of_host h)]
    · exact h.areas.imp_left fun ⟨ha, hb⟩ => by simp [ha, hb]
    · rw [ne_eq, Prod.mk.injEq, not_and_or]
      exact hne

end Sys2Proof.DeviceProofs
end

section
/-!
The host port: the judgement of a frame (R184), the mode commands, the STORE, the resets, the reads and the attention set.
Each command is its frame's judgement, then its body on the state that the transaction began.
-/
namespace Sys2Proof.PortProofs
open Sys2Proof Sys2Proof.Machine Sys2Proof.Machine.Laws Sys2Proof.CommandProofs Sys2Proof.DeviceProofs

/-! ### The lowest index with a property -/

/-- The first index of `0` to `n - 1` that has a property is the one below which none has it. -/
theorem find_finRange_eq_some {n : Nat} {p : Fin n → Bool} {i : Fin n} :
    (List.finRange n).find? p = some i ↔ p i = true ∧ ∀ j, j < i → p j = false := by
  rw [List.find?_eq_some_iff_getElem]
  refine and_congr_right fun _ => ⟨?_, fun h => ⟨i.val, by simp, by simp, fun j hj => ?_⟩⟩
  · rintro ⟨k, hk, rfl, hbefore⟩ j hj
    have hlt : j.val < k := by simpa [Fin.lt_def] using hj
    simpa using hbefore j.val hlt
  · simpa using h ⟨j, by omega⟩ hj

theorem find_finRange_eq_none {n : Nat} {p : Fin n → Bool} :
    (List.finRange n).find? p = none ↔ ∀ j, p j = false := by
  simp

/-! ### The judgement of a frame -/

theorem exec_turnedAway {i : Instr} {t : Instant} {n : Nat} {k : HostCommand} {s : State} {st : Status}
    (h : portCommand i = some (t, n, k)) (hj : k.judge n (s.begun t n) = some st) :
    exec i s = .next ((s.begun t n).answer k.code st .none) := by
  rw [exec_port s h, hostFrame, hj]

theorem exec_judged {i : Instr} {t : Instant} {n : Nat} {k : HostCommand} {s : State}
    (h : portCommand i = some (t, n, k)) (hj : k.judge n (s.begun t n) = none) :
    exec i s = .next ((portBody i (s.begun t n)).apply k.code (s.begun t n)) := by
  rw [exec_port s h, hostFrame, hj]

/-- R184, steps 2 and 3, once the frame is long enough. -/
theorem judge_long {t : Instant} {n : Nat} {k : HostCommand} {s : State} (hn : k.length ≤ n) :
    k.judge n (s.begun t n)
      = if s.storing.isSome = true ∧ ¬ k.duringStore = true then some .busy else k.rule.judge s.mode := by
  simp [HostCommand.judge, Nat.not_lt.mpr hn]

/-- R171, R177: a frame that is long enough and comes outside a STORE in a mode of its rule is taken. -/
theorem exec_taken {i : Instr} {t : Instant} {n : Nat} {k : HostCommand} {s : State}
    (h : portCommand i = some (t, n, k)) (hn : k.length ≤ n) (hstore : s.storing = none)
    (hrule : k.rule.judge s.mode = none) :
    exec i s = .next ((portBody i (s.begun t n)).apply k.code (s.begun t n)) :=
  exec_judged h (by simp [judge_long hn, hstore, hrule])

theorem judge_notInFallback {m : DeviceMode} (h : m ≠ .fallback) : ModeRule.notInFallback.judge m = none := by
  cases m <;> simp_all [ModeRule.judge]

/-- Settles O15: the four clauses are the three steps of the judgement, the mode rule's answers read off its table. -/
theorem framesTurnedAway : Obligations.FramesTurnedAway := by
  intro i t n k s h
  refine ⟨fun hn => exec_turnedAway h ?_, fun hn hstore hduring => exec_turnedAway h ?_,
    fun hn hstore hmode hrule => exec_turnedAway h ?_, fun hn hstore hrule => exec_turnedAway h ?_⟩
  · simp [HostCommand.judge, hn]
  · simp [judge_long hn, hstore, hduring]
  · rw [judge_long hn]
    rcases hrule with hrule | hrule | hrule <;> simp [hstore, hmode, hrule, ModeRule.judge]
  · rw [judge_long hn]
    rcases hrule with ⟨hrule, hmode⟩ | ⟨hrule, hmode⟩ | ⟨hrule, hmode⟩
    · simp [hstore, hmode, hrule, ModeRule.judge]
    · simp [hstore, hmode, hrule, ModeRule.judge]
    · rw [hrule, hstore]
      revert hmode
      cases s.mode <;> simp [ModeRule.judge]

/-! ### Filler and malformed frames -/

/-- R183: a response is unread after a transaction exactly where it was unread and the transaction was too short. -/
theorem unread_begun (t : Instant) (n : Nat) (s : State) :
    (s.begun t n).unread = s.response.any fun r => !r.read && decide (n < r.length) := by
  rw [begun_eq]
  cases hr : s.response with
  | none => simp [State.unread]
  | some r =>
    by_cases hlen : r.length ≤ n
    · simp [State.unread, hlen, Nat.not_lt.mpr hlen]
    · simp [State.unread, hlen, Nat.not_le.mp hlen]

/-- Settles O52: a filler collects alone; a malformed frame is answered after the transaction's own part. -/
theorem fillerAndMalformed : Obligations.FillerAndMalformed := by
  refine ⟨fun t n s => rfl, fun t n k l s hk => ?_, fun t n f k v s hk => if_neg hk⟩
  have hexec : exec (.malformedFrame t n k l) s = .next ((s.begun t n).answer k .malformed .none) := if_neg hk
  rw [hexec, State.answer, unread_begun]

/-! ### Modes -/

theorem operate_begun (t : Instant) (n : Nat) (s : State) :
    (s.begun t n).operate
      = { s.begun t n with mode := .operate, startupExpiry := none, silenceSince := some (max s.now t) } := by
  simp [State.operate]

/-- Settles O53: both commands are taken in their mode, and their body is the entry into OPERATE. -/
theorem operateEntered : Obligations.OperateEntered := by
  intro t n s hn hstore
  refine ⟨fun hmode => ?_, fun hmode => ?_⟩
  · rw [exec_taken (i := .beginOperate t n) rfl hn hstore (by simp [hmode, ModeRule.judge]), ← operate_begun]
    rfl
  · rw [exec_taken (i := .reconnect t n) rfl hn hstore (by simp [hmode, ModeRule.judge]), ← operate_begun]
    rfl

/-! ### The profile -/

theorem inForce_pairing (s : State) (k : PairingId) : s.inForce.pairings.get k = (s.pairings.get k).pairing := by
  simp [State.inForce]

theorem inForce_channel (s : State) (c : Chan) :
    s.inForce.channels.get c
      = { mode := (s.chan c).mode, period := (s.chan c).pendingPeriod.getD (s.chan c).period,
          config := (s.chan c).config } := by
  simp [State.inForce]

/-- Settles O49: the copy is what is in force when the frame arrives, and the completion writes the copy. -/
theorem storeWrites : Obligations.StoreWrites := by
  refine ⟨fun t n s hn hstore hmode => ?_, fun t p s hstore => ?_⟩
  · refine ⟨(s.begun t n).inForce, ?_, begun_device t n s, fun k => ?_, fun c => ?_⟩
    · rw [exec_taken (i := .store t n) rfl hn hstore (judge_notInFallback hmode)]
      rfl
    · rw [inForce_pairing, begun_pairings]
    · rw [inForce_channel, chan_begun]
      exact ⟨rfl, rfl, rfl⟩
  · have hexec : exec (.storeCompletion t) s = .next (s.tick t).storeCompletes.finish := rfl
    rw [hexec, State.storeCompletes, tick_storing, hstore]
    rfl

/-! ### Resets -/

theorem channelReset_afterReset (p : ChannelProfile) (now : Instant) :
    ChannelReset p now (Channel.afterReset p now) where
  settings := ⟨rfl, rfl, rfl, rfl⟩
  epoch := rfl
  line := ⟨rfl, rfl, rfl⟩
  phases q := by simp [Channel.afterReset]
  requests := rfl
  queues := ⟨rfl, rfl, rfl⟩
  survey := by
    simp only [Channel.afterReset]
    unfold Survey.afterReset
    split
    · split <;> exact ⟨rfl, rfl, rfl, rfl⟩
    · exact ⟨rfl, rfl, rfl, rfl⟩

/-- R179: what every reset leaves, whatever its cause. -/
theorem afterReset_resetWith (k : AttnItem) (a b : Bool) {s v : State} (hp : v.profile = s.profile)
    (hv : v.profileValid = s.profileValid) :
    AfterReset s (v.resetWith k a b) v.now (if s.profileValid then s.profile else builtinProfile) := by
  rw [← hp, ← hv]
  exact
    { mode := ⟨rfl, rfl, rfl⟩
      startup := rfl
      slots := fun i => by simp [slot_def, State.resetWith, Slot.fresh]
      table := rfl
      channels := fun c => by
        rw [AttentionProofs.chan_resetWith]
        exact channelReset_afterReset _ _
      device := rfl
      pairings := fun k => by simp [State.resetWith, Profile.heldPairings, State.loaded]
      profile := ⟨hp, hv⟩ }

theorem afterReset_answer {s u : State} {now : Instant} {p : Profile} (code : Nat) (st : Status) (x : Payload)
    (h : AfterReset s u now p) : AfterReset s (u.answer code st x) now p :=
  ⟨h.mode, h.startup, h.slots, h.table, h.channels, h.device, h.pairings, h.profile⟩

/-- R181: the attention set after a reset: its cause, PROFILE DEFAULTED where the mark is clear, the SURVEY ERROR items
of the loaded profile, and what is kept. -/
theorem mem_attention_resetWith {x k : AttnItem} {a b : Bool} {s : State} :
    x ∈ (s.resetWith k a b).attention
      ↔ x ∈ s.loaded.errorItems ∨ (x = .profileDefaulted ∧ s.profileValid = false) ∨ x = k
        ∨ x ∈ keptAttention k s.attention := by
  have hdefault : x ∈ (if s.profileValid = true then [] else [AttnItem.profileDefaulted])
      ↔ x = .profileDefaulted ∧ s.profileValid = false := by
    cases s.profileValid <;> simp
  show x ∈ attentionAfter k s.loaded s.profileValid s.attention ↔ _
  rw [attentionAfter, AttentionProofs.mem_foldr_attnAdd, List.mem_append, List.mem_append, hdefault, List.mem_singleton]
  tauto

theorem mem_errorItems {x : AttnItem} {p : Profile} (h : x ∈ p.errorItems) : ∃ c, x = .surveyError c := by
  obtain ⟨c, -, rfl⟩ := List.mem_map.mp h
  exact ⟨c, rfl⟩

theorem mem_keptAttention {x k : AttnItem} {l : List AttnItem} :
    x ∈ keptAttention k l ↔ k ≠ .power ∧ x ∈ l ∧ x.isResetCause = true := by
  unfold keptAttention
  split
  · next h => simp [h]
  · next h => simp [h]

/-- R181: PROFILE DEFAULTED stands after a reset exactly where the valid mark is clear. -/
theorem profileDefaulted_mem_resetWith {k : AttnItem} (hk : k ≠ .profileDefaulted) (a b : Bool) (s : State) :
    AttnItem.profileDefaulted ∈ (s.resetWith k a b).attention ↔ s.profileValid = false := by
  rw [mem_attention_resetWith, mem_keptAttention]
  have herror : AttnItem.profileDefaulted ∉ s.loaded.errorItems := fun h => by
    obtain ⟨c, hc⟩ := mem_errorItems h
    cases hc
  simp [herror, hk.symm, AttnItem.isResetCause]

/-- R181: a reset cause stands after a reset where it is the reset's own, or was kept. -/
theorem resetCause_mem_resetWith {x k : AttnItem} (hx : x.isResetCause = true) (a b : Bool) (s : State) :
    x ∈ (s.resetWith k a b).attention ↔ x = k ∨ (k ≠ .power ∧ x ∈ s.attention) := by
  rw [mem_attention_resetWith, mem_keptAttention]
  have herror : x ∉ s.loaded.errorItems := fun h => by
    obtain ⟨c, rfl⟩ := mem_errorItems h
    cases hx
  have hdefault : x ≠ .profileDefaulted := by
    rintro rfl
    cases hx
  simp [herror, hx, hdefault]

theorem fallback_not_mem_resetWith {k : AttnItem} (hk : k ≠ .fallback) (a b : Bool) (s : State) :
    AttnItem.fallback ∉ (s.resetWith k a b).attention := by
  rw [mem_attention_resetWith, mem_keptAttention]
  have herror : AttnItem.fallback ∉ s.loaded.errorItems := fun h => by
    obtain ⟨c, hc⟩ := mem_errorItems h
    cases hc
  simp [herror, hk.symm, AttnItem.isResetCause]

/-- R179: a LINE reset is the whole of its command. -/
theorem exec_lineReset (t : Instant) (a b : Bool) (s : State) :
    exec (.lineReset t a b) s = .next ((s.tick t).resetWith .line a b) := by
  have hexec : exec (.lineReset t a b) s = .next ((s.tick t).resetWith .line a b).finish := rfl
  rw [hexec, finish_of_quiet (AttentionProofs.quiet_resetWith ..)]

/-- R179, R186: the RESET command is a reset and its answer. -/
theorem exec_resetCommand {t : Instant} {n : Nat} {s : State} (hn : 3 ≤ n) (hstore : s.storing = none) :
    exec (.resetCommand t n) s
      = .next (((s.begun t n).resetWith .command s.areaA s.areaB).answer 3 .done .none) := by
  rw [exec_taken (i := .resetCommand t n) rfl hn hstore rfl]
  simp only [portBody, Verdict.apply, finish_of_quiet (AttentionProofs.quiet_resetWith ..), begun_areaA, begun_areaB]
  rfl

/-- Settles O50: the three commands are one reset each with its own cause. -/
theorem resets : Obligations.Resets := by
  refine ⟨fun t a b s => ⟨_, AttentionProofs.exec_powerReset t a b s, afterReset_resetWith .power a b (v := s.tick t) rfl rfl,
      rfl,
      rfl, rfl, ?_, ?_, ?_, profileDefaulted_mem_resetWith (by simp) _ _ _⟩,
    fun t a b s => ⟨_, exec_lineReset t a b s, afterReset_resetWith .line a b (v := s.tick t) rfl rfl,
      rfl, rfl, rfl, ?_, ?_,
      profileDefaulted_mem_resetWith (by simp) _ _ _, fallback_not_mem_resetWith (by simp) _ _ _⟩,
    fun t n s hn hstore => ⟨_, exec_resetCommand hn hstore, ?_, rfl, rfl, rfl, ?_, ?_⟩⟩
  · exact (resetCause_mem_resetWith rfl ..).mpr (.inl rfl)
  · simp [resetCause_mem_resetWith (x := .line) rfl]
  · simp [resetCause_mem_resetWith (x := .command) rfl]
  · exact (resetCause_mem_resetWith rfl ..).mpr (.inl rfl)
  · simp [resetCause_mem_resetWith (x := .power) rfl]
  · exact begun_now t n s ▸ afterReset_answer _ _ _ (afterReset_resetWith .command s.areaA s.areaB
      (begun_profile t n s) (begun_profileValid t n s))
  · exact (resetCause_mem_resetWith (k := .command) rfl s.areaA s.areaB _).mpr (.inl rfl)
  · exact (profileDefaulted_mem_resetWith (by simp) s.areaA s.areaB _).trans (by simp)

/-! ### Naming a group -/

/-- R191, R197: a selector and number that name a slot pass the field judgement, and the port finds the slot. -/
theorem names_found {s : State} {gf : GroupField} {i : SlotId} (h : NamesGroup s gf i) :
    groupFieldJudge gf = none ∧ s.namedSlot gf = some i := by
  rcases h with ⟨hsel, hnum⟩ | ⟨hsel, hlow, hhigh, hcall⟩
  · simp [groupFieldJudge, State.namedSlot, hsel, hnum, slotOf, need]
  · simp [groupFieldJudge, State.namedSlot, hsel, validCall, hlow, hhigh, hcall]

/-- R191: a command on a group that is named, with no field refused, is its act on that group. -/
theorem onGroup_named {s : State} {gf : GroupField} {i : SlotId} {g : Machine.Group} {fields : List (Option Reason)}
    {act : SlotId → Machine.Group → Verdict} (h : NamesGroup s gf i) (hg : s.group i = some g)
    (hf : firstRefusal fields = none) : s.onGroup gf fields act = act i g := by
  obtain ⟨hjudge, hslot⟩ := names_found h
  have hfields : firstRefusal (groupFieldJudge gf :: fields) = none := by
    simpa [firstRefusal, hjudge] using hf
  simp [State.onGroup, hfields, hslot, hg]

@[simp] theorem namesGroup_begun {t : Instant} {n : Nat} {s : State} {gf : GroupField} {i : SlotId} :
    NamesGroup (s.begun t n) gf i ↔ NamesGroup s gf i := by simp [NamesGroup]

/-! ### Reads -/

theorem readGroup_named {s : State} {gf : GroupField} {i : SlotId} (h : NamesGroup s gf i) :
    s.readGroupBody gf = .read s (.readGroup (s.readout i) (s.slot i).changed) := by
  obtain ⟨hjudge, hslot⟩ := names_found h
  simp [State.readGroupBody, hjudge, hslot]

theorem readGroup_unused {s : State} {k : Nat} (hlow : 1 ≤ k) (hhigh : k ≤ 99) (h : s.slotOfCall k = none) :
    s.readGroupBody { selector := 1, number := k } = .refused .notFound .none := by
  simp [State.readGroupBody, groupFieldJudge, State.namedSlot, validCall, hlow, hhigh, h]

theorem entryIndex_none {s : State} {r : Radio} (h : s.entry r = none) : s.entryIndex r = none := by
  simpa [State.entryIndex, State.entry] using h

/-- Settles O54: the frame is taken in every mode, and each body returns its record or finds none. -/
theorem readsReturnRecords : Obligations.ReadsReturnRecords := by
  intro t n s hn
  refine ⟨?_, fun hstore gf i hi => ?_, fun hstore k hlow hhigh hk => ?_, fun hstore k hk => ?_, fun hstore k hk => ?_,
    fun hstore r hr => ?_, fun hstore c => ?_⟩
  · rw [exec_judged (i := .status t n) rfl (by rw [judge_long (by simp only; omega)]; simp [ModeRule.judge])]
    rfl
  · rw [exec_taken (i := .readGroup t n gf) rfl (by simp only; omega) hstore rfl]
    simp only [portBody, readGroup_named (namesGroup_begun.mpr hi), slot_begun]
    rfl
  · rw [exec_taken (i := .readGroup t n _) rfl (by simp only; omega) hstore rfl]
    simp only [portBody, readGroup_unused hlow hhigh (by simpa using hk : (s.begun t n).slotOfCall k = none)]
    rfl
  · rw [exec_taken (i := .readReg t n 1 k) rfl hn hstore rfl]
    simp [portBody, State.readRegBody, State.readRegAt, hk, Verdict.apply]
  · rw [exec_taken (i := .readReg t n 1 k) rfl hn hstore rfl]
    simp [portBody, State.readRegBody, State.readRegAt, hk, Verdict.apply]
  · rw [exec_taken (i := .readReg t n 0 r) rfl hn hstore rfl]
    simp [portBody, State.readRegBody, State.readRegAt, Verdict.apply,
      entryIndex_none (by simpa using hr : (s.begun t n).entry r = none)]
  · rw [exec_taken (i := .surveyRead t n c.val) rfl (by simp only; omega) hstore rfl]
    simp [portBody, State.surveyReadBody, chanOf, Verdict.apply]

/-! ### POLL -/

theorem firstChanged_eq_some {s : State} {i : SlotId} (hi : (s.slot i).changed = true)
    (hbelow : ∀ j, j < i → (s.slot j).changed = false) : s.firstChanged = some i :=
  find_finRange_eq_some.mpr ⟨hi, hbelow⟩

theorem firstChanged_eq_none {s : State} (h : ∀ i, (s.slot i).changed = false) : s.firstChanged = none :=
  find_finRange_eq_none.mpr h

/-- Settles O55: the body finds the lowest marked slot, or none. -/
theorem pollReturnsLowest : Obligations.PollReturnsLowest := by
  intro t n s hn
  refine ⟨fun hstore => ⟨fun i hi hbelow => ?_, fun hnone => ?_⟩, fun hstore => ?_⟩
  · have hfirst : (s.begun t n).firstChanged = some i :=
      firstChanged_eq_some (by simpa using hi) (by simpa using hbelow)
    rw [exec_taken (i := .poll t n) rfl hn hstore rfl]
    simp only [portBody, State.pollBody, hfirst, State.clearMark, slot_begun]
    rfl
  · have hfirst : (s.begun t n).firstChanged = none := firstChanged_eq_none (by simpa using hnone)
    rw [exec_taken (i := .poll t n) rfl hn hstore rfl]
    simp only [portBody, State.pollBody, hfirst]
    rfl
  · exact exec_turnedAway (i := .poll t n) rfl (by rw [judge_long hn]; simp [hstore])

/-! ### Curve, pairings, attention -/

/-- R123: the written curve at an entry. -/
theorem loadCurve_getElem (curve : Vector Nat 32) (first : Nat) (v : List Nat) (hv : ∀ x ∈ v, x ≤ 400) (j : Nat)
    (h : j < 32) :
    (loadCurve curve first v)[j]
      = if h' : first ≤ j ∧ j - first < v.length then v[j - first]'h'.2 else curve[j] := by
  have hget : curve.get ⟨j, h⟩ = curve[j] := rfl
  simp only [loadCurve, Vector.getElem_ofFn, hget]
  by_cases hfirst : first ≤ j
  · by_cases hlen : j - first < v.length
    · simp [hfirst, hlen, hv _ (List.getElem_mem hlen)]
    · simp [hfirst, hlen]
  · simp [hfirst]

theorem writeCurve_curve (s : State) (first : Nat) (v : List Nat) :
    (s.writeCurve first v).device.curve = loadCurve s.device.curve first v := rfl

theorem curveClamped_false {first : Nat} {v : List Nat} (hlen : first + v.length ≤ 32) (hv : ∀ x ∈ v, x ≤ 400) :
    curveClamped first v = false := by
  simp only [curveClamped, Bool.or_eq_false_iff, Bool.and_eq_false_iff, List.any_eq_false, decide_eq_true_eq,
    decide_eq_false_iff_not, not_lt]
  exact ⟨fun x hx => hv x hx, .inr hlen⟩

/-- R197: a SET-PAIRING with its fields in range is refused for none of them. -/
theorem pairingJudge_none {a : SetPairingArgs} (hlow : 1 ≤ a.call) (hhigh : a.call ≤ 99) (hc : a.channel ≤ 7)
    (ha : a.area ≤ 2) : pairingJudge a = none := by
  have hchan : a.channel < 8 := by omega
  have harea : (areaOf a.area).isSome = true := by
    generalize a.area = k at ha
    interval_cases k <;> rfl
  unfold pairingJudge
  split
  · rfl
  · simp [firstRefusal, need, validCall, hlow, hhigh, chanOf, hchan, harea]

theorem setPairing_taken {s : State} {a : SetPairingArgs} {k : PairingId} (hk : a.index = k.val)
    (hj : pairingJudge a = none) :
    s.setPairingBody a = .taken (s.writePairing k (pairingWritten a)) false fun _ => .none := by
  simp [State.setPairingBody, pairingOf, hk, hj]

theorem pairings_writePairing (s : State) (k j : PairingId) (q : Pairing) :
    (s.writePairing k q).pairings.get j = if j = k then { pairing := q, held := false } else s.pairings.get j := by
  simp only [State.writePairing, Vector.get_eq_getElem, Vector.getElem_set, Fin.ext_iff]
  split <;> split <;> simp_all

/-- Settles O60: the three commands are taken outside FALLBACK and write what their fields say. -/
theorem curvePairingAttention : Obligations.CurvePairingAttention := by
  intro t n s hstore hmode
  refine ⟨fun first v hn hlen hv => ?_, fun a k hn hk hlow hhigh hc ha => ?_, fun mask hn => ?_⟩
  · refine ⟨(s.begun t n).writeCurve first v, ?_, fun j h => ?_, by simp [State.writeCurve, State.modDevice]⟩
    · have hport : portCommand (.loadCurve t n first v.length v)
          = some (t, n, { code := 20, length := 5 + 2 * v.length, rule := .notInFallback }) := if_pos rfl
      rw [exec_taken hport hn hstore (judge_notInFallback hmode)]
      simp only [portBody, Verdict.apply, curveClamped_false hlen hv, Bool.false_eq_true, if_false]
    · simp only [writeCurve_curve, begun_device]
      exact loadCurve_getElem s.device.curve first v hv j h
  · refine ⟨(s.begun t n).writePairing k (pairingWritten a), ?_, ?_, fun j hj => ?_, rfl⟩
    · rw [exec_taken (i := .setPairing t n a) rfl hn hstore (judge_notInFallback hmode)]
      simp only [portBody, setPairing_taken hk (pairingJudge_none hlow hhigh hc ha)]
      rfl
    · simp [pairings_writePairing, pairingWritten]
    · simp [pairings_writePairing, hj]
  · refine ⟨(s.begun t n).clearItems mask, ?_, by simp [State.clearItems, attnClear]⟩
    rw [exec_taken (i := .clearAttention t n mask) rfl hn hstore (judge_notInFallback hmode)]
    rfl

end Sys2Proof.PortProofs
end

section
/-!
The operations on one slot's group record in one normal form: a write of the slot with a record computed from the old one.
Levels, causes, the warn condition and presence (R64, R67, R70 to R72, R77, R78) are functions of the record here, tied to
the operations of the state by one equation each.
-/
namespace Sys2Proof.SlotProofs
open Sys2Proof Sys2Proof.Machine Sys2Proof.Machine.Laws Sys2Proof.CommandProofs

/-! ### Writing a slot -/

@[simp] theorem setSlot_setSlot (s : State) (i : SlotId) (v w : Slot) : (s.setSlot i v).setSlot i w = s.setSlot i w := by
  simp [State.setSlot]

theorem setSlot_same (s : State) (i : SlotId) : s.setSlot i (s.slot i) = s := by
  simp [State.setSlot, slot_def]

/-- A state is the write of the slot that it holds. -/
theorem eq_setSlot {s : State} {i : SlotId} {g : Machine.Group} (h : s.group i = some g) :
    s = s.setSlot i { changed := (s.slot i).changed, body := .held g } := by
  conv_lhs => rw [← setSlot_same s i]
  rw [← group_eq_some h]

/-- Two commands that write one slot of one state agree where the written slots do. -/
theorem next_setSlot_congr {s : State} {i : SlotId} {v w : Slot} (h : v = w) :
    (Host.Outcome.next (s.setSlot i v).finish : Host.Outcome State Fault Refusal) = .next (s.setSlot i w).finish := by
  rw [h]

theorem modGroup_setSlot (s : State) (i : SlotId) (b : Bool) (g : Machine.Group) (f : Machine.Group → Machine.Group) :
    (s.setSlot i { changed := b, body := .held g }).modGroup i f
      = s.setSlot i { changed := b, body := .held (f g) } := by
  rw [modGroup_eq f (group_setSlot_held s i b g)]
  simp

theorem mark_setSlot (s : State) (i : SlotId) (v : Slot) :
    (s.setSlot i v).mark i = s.setSlot i { v with changed := true } := by
  simp [State.mark]

/-- R48: a group with one more notice. -/
def noticed (g : Machine.Group) (n : Notice) (d : NoticeTo) : Machine.Group :=
  { g with notices := pushNotice g.notices { notice := n, dest := d } }

theorem toLeader_eq {s : State} {i : SlotId} {g : Machine.Group} (n : Notice) (h : s.group i = some g) :
    s.toLeader i n = s.setSlot i { changed := (s.slot i).changed, body := .held (noticed g n .leader) } :=
  modGroup_eq _ h

theorem toRadio_eq {s : State} {i : SlotId} {g : Machine.Group} (r : Radio) (n : Notice) (h : s.group i = some g) :
    s.toRadio i r n = s.setSlot i { changed := (s.slot i).changed, body := .held (noticed g n (.radio r)) } :=
  modGroup_eq _ h

theorem toLeader_setSlot (s : State) (i : SlotId) (b : Bool) (g : Machine.Group) (n : Notice) :
    (s.setSlot i { changed := b, body := .held g }).toLeader i n
      = s.setSlot i { changed := b, body := .held (noticed g n .leader) } := modGroup_setSlot s i b g _

/-! ### Halt causes -/

theorem del_absent {cs : Causes} {c : Cause} (h : cs.has c = false) : cs.del c = cs := by
  refine causes_ext fun d => ?_
  by_cases hd : c = d
  · subst hd
    simp [Causes.del, h]
  · exact has_put_ne _ _ hd

theorem del_comm (cs : Causes) (c d : Cause) : (cs.del c).del d = (cs.del d).del c := by
  cases c <;> cases d <;> rfl

theorem has_del_ne {cs : Causes} {c d : Cause} (h : c ≠ d) : (cs.del c).has d = cs.has d := has_put_ne _ _ h

@[simp] theorem has_del_self (cs : Causes) (c : Cause) : (cs.del c).has c = false := has_put_self _ _ _

@[simp] theorem has_add_self (cs : Causes) (c : Cause) : (cs.add c).has c = true := has_put_self _ _ _

/-- R77: a removal writes the slot with the cause gone, the mark being set where it was present. -/
theorem removeCause_eq {s : State} {i : SlotId} {g : Machine.Group} (c : Cause) (h : s.group i = some g) :
    s.removeCause i c
      = s.setSlot i { changed := (s.slot i).changed || g.causes.has c,
                      body := .held { g with causes := g.causes.del c } } := by
  unfold State.removeCause
  simp only [h]
  cases hc : g.causes.has c with
  | true =>
    rw [if_pos rfl, modGroup_eq _ h, mark_setSlot, Bool.or_true]
  | false =>
    simp only [Bool.false_eq_true, if_false, Bool.or_false, del_absent hc]
    exact eq_setSlot h

theorem removeCause_setSlot (s : State) (i : SlotId) (b : Bool) (g : Machine.Group) (c : Cause) :
    (s.setSlot i { changed := b, body := .held g }).removeCause i c
      = s.setSlot i { changed := b || g.causes.has c, body := .held { g with causes := g.causes.del c } } := by
  rw [removeCause_eq c (group_setSlot_held s i b g)]
  simp

/-- Settles O18: both removals of one slot are writes of it, and the two causes leave the set in either order. -/
theorem causeRemoval : Obligations.CauseRemoval := by
  intro s i g c h
  refine ⟨fun hc => ?_, fun hc => ?_, fun d => ?_⟩
  · rw [removeCause_eq c h, hc, Bool.or_true]
  · rw [removeCause_eq c h, hc, Bool.or_false, del_absent hc]
    exact (eq_setSlot h).symm
  · rw [removeCause_eq c h, removeCause_eq d h, removeCause_setSlot, removeCause_setSlot, del_comm g.causes c d]
    by_cases hcd : c = d
    · rw [hcd]
    · rw [has_del_ne hcd, has_del_ne (Ne.symm hcd), Bool.or_assoc, Bool.or_assoc, Bool.or_comm (g.causes.has c)]

/-! ### The warn condition -/

/-- R71, R72: whether the state of a group must follow the warn condition. -/
def turns (warn : Nat) (g : Machine.Group) : Bool :=
  (g.state == .active && g.warned warn) || (g.state == .degraded && !g.warned warn)

/-- R71, R72: a group after the judgement of the warn condition. -/
def judged (warn : Nat) (g : Machine.Group) : Machine.Group :=
  if g.state = .active ∧ g.warned warn then noticed { g with state := .degraded } (.weakLink (g.weakest warn)) .leader
  else if g.state = .degraded ∧ ¬ g.warned warn then noticed { g with state := .active } .linkRestored .leader
  else g

theorem judgeWarn_eq {s : State} {i : SlotId} {g : Machine.Group} (h : s.group i = some g) :
    s.judgeWarn i
      = s.setSlot i { changed := (s.slot i).changed || turns s.device.warn g,
                      body := .held (judged s.device.warn g) } := by
  unfold State.judgeWarn judged turns
  simp only [h]
  by_cases hdown : g.state = .active ∧ g.warned s.device.warn = true
  · simp only [hdown.1, hdown.2]
    rw [modGroup_eq _ h, mark_setSlot, toLeader_setSlot]
    simp [noticed, Machine.Group.weakest]
  · by_cases hup : g.state = .degraded ∧ ¬ g.warned s.device.warn = true
    · simp only [if_neg hdown, if_pos hup]
      rw [modGroup_eq _ h, mark_setSlot, toLeader_setSlot]
      simp [hup.1, hup.2, noticed]
    · simp only [if_neg hdown, if_neg hup]
      have hstay : ((g.state == .active && g.warned s.device.warn)
          || (g.state == .degraded && !g.warned s.device.warn)) = false := by
        cases hs : g.state <;> cases hw : g.warned s.device.warn <;> simp_all
      rw [hstay, Bool.or_false]
      exact eq_setSlot h

theorem judgeWarn_setSlot (s : State) (i : SlotId) (b : Bool) (g : Machine.Group) :
    (s.setSlot i { changed := b, body := .held g }).judgeWarn i
      = s.setSlot i { changed := b || turns s.device.warn g, body := .held (judged s.device.warn g) } := by
  rw [judgeWarn_eq (group_setSlot_held s i b g)]
  simp

theorem judgeWarn_free {s : State} {i : SlotId} (h : s.group i = none) : s.judgeWarn i = s := by
  simp [State.judgeWarn, h]

/-! ### Presence -/

/-- R67, R78: a group after the refresh of a member's level, before the warn condition is judged. -/
def leveled (g : Machine.Group) (r : Radio) (role : Role) : Machine.Group :=
  match role.linkCause with
  | none => g.setLevel r 7 role
  | some c => { g.setLevel r 7 role with causes := g.causes.del c }

/-- R67, R70 to R72, R78: a group after the refresh of a member's level. -/
def refreshed (warn : Nat) (g : Machine.Group) (r : Radio) (role : Role) : Machine.Group := judged warn (leveled g r role)

/-- R70, R77: whether a refresh sets the changed mark. -/
def refreshMarks (warn : Nat) (g : Machine.Group) (r : Radio) (role : Role) : Bool :=
  decide (g.levelOf r role ≤ warn) || role.linkCause.any g.causes.has || turns warn (leveled g r role)

@[simp] theorem setLevel_causes (g : Machine.Group) (r : Radio) (n : Nat) (role : Role) :
    (g.setLevel r n role).causes = g.causes := by cases role <;> rfl

theorem refresh_eq {s : State} {i : SlotId} {r : Radio} {role : Role} {g : Machine.Group} (h : s.group i = some g)
    (hr : g.roleOf r = some role) :
    s.refresh i r
      = s.setSlot i { changed := (s.slot i).changed || refreshMarks s.device.warn g r role,
                      body := .held (refreshed s.device.warn g r role) } := by
  have hmark : ∀ v : State, ∀ b : Bool, ∀ x : Machine.Group,
      (if g.levelOf r role ≤ s.device.warn then (v.setSlot i { changed := b, body := .held x }).mark i
        else v.setSlot i { changed := b, body := .held x })
        = v.setSlot i { changed := b || decide (g.levelOf r role ≤ s.device.warn), body := .held x } := by
    intro v b x
    split
    · next hle => simp [mark_setSlot, hle]
    · next hle => simp [hle]
  unfold State.refresh
  simp only [h, hr]
  rw [modGroup_eq _ h, hmark]
  unfold refreshed refreshMarks leveled
  cases hc : role.linkCause with
  | none => simp only [judgeWarn_setSlot, Option.any_none, Bool.or_false, Bool.or_assoc]
  | some c =>
    simp only [removeCause_setSlot, judgeWarn_setSlot, Option.any_some, setLevel_causes, Bool.or_assoc]

/-- A radio that is no member refreshes nothing. -/
theorem refresh_free {s : State} {i : SlotId} (r : Radio) (h : s.group i = none) : s.refresh i r = s := by
  simp [State.refresh, h]

theorem refresh_stranger {s : State} {i : SlotId} {r : Radio} {g : Machine.Group} (h : s.group i = some g)
    (hr : g.roleOf r = none) : s.refresh i r = s := by
  simp [State.refresh, h, hr]

/-- R64: what a valid frame from a radio does to its group's answer window. -/
theorem answered_eq (g : Machine.Group) (r : Radio) :
    g.answered r = { g with window := if g.window.any (fun w => w.target == r) then none else g.window } := by
  unfold Group.answered
  cases hw : g.window with
  | none => cases g; simp_all
  | some w =>
    by_cases ht : w.target = r
    · cases g; simp_all
    · cases g; simp_all

theorem answered_window (g : Machine.Group) (r : Radio) : ∃ w, g.answered r = { g with window := w } :=
  ⟨_, answered_eq g r⟩

@[simp] theorem answered_roleOf (g : Machine.Group) (r x : Radio) : (g.answered r).roleOf x = g.roleOf x := by
  unfold Group.answered
  repeat' split
  all_goals rfl

theorem answered_levelOf (g : Machine.Group) (r x : Radio) (role : Role) :
    (g.answered r).levelOf x role = g.levelOf x role := by
  unfold Group.answered
  repeat' split
  all_goals rfl

@[simp] theorem answered_causes (g : Machine.Group) (r : Radio) : (g.answered r).causes = g.causes := by
  unfold Group.answered
  repeat' split
  all_goals rfl

/-- R16, R64, R67: presence of a member is one write of its slot. -/
theorem presence_eq {s : State} {i : SlotId} {r : Radio} {role : Role} {g : Machine.Group} (h : s.group i = some g)
    (hr : g.roleOf r = some role) :
    s.presence i r
      = s.setSlot i { changed := (s.slot i).changed || refreshMarks s.device.warn (g.answered r) r role,
                      body := .held (refreshed s.device.warn (g.answered r) r role) } := by
  unfold State.presence
  rw [modGroup_eq _ h, refresh_eq (group_setSlot_held ..) (by rw [answered_roleOf]; exact hr)]
  simp

/-! ### Frames that reach nobody -/

/-- R13: each reason for which Intake discards a frame. -/
theorem discards_of {k : UplinkKind} {c : Chan} {f : UplinkFrame} {s : State}
    (h : f.integrity = .fail ∨ f.kindListed = false ∨ f.sender = 0 ∨ f.sender = 16777215 ∨ (s.chan c).mode = .off) :
    s.discards k c f = true := by
  unfold State.discards validSender broadcast
  rcases h with h | h | h | h | h <;> simp [h]

/-- Settles O20: a discarded frame has no effect, and the clock alone leaves a quiet state quiet. -/
theorem discardedFrames : Obligations.DiscardedFrames := by
  intro k t c f s hquiet h
  have hdiscards : (s.tick t).discards k c f = true := discards_of h
  rw [exec_uplink, uplink, State.intake, if_pos hdiscards, finish_of_quiet (quiet_tick t hquiet)]

/-! ### Frames from a member -/

/-- R13: a frame that arrives is not discarded, a CHECK-IN if its declared kind is listed. -/
theorem discards_false {s : State} {k : UplinkKind} {c : Chan} {f : UplinkFrame} (h : Arrives s c f)
    (hk : k = .checkIn → (radioKindOf f.declared).isSome = true) : s.discards k c f = false := by
  have hkind : (k == .checkIn && (radioKindOf f.declared).isNone) = false := by
    by_cases hc : k = .checkIn
    · have := hk hc
      cases hr : radioKindOf f.declared <;> simp_all
    · simp [hc]
  obtain ⟨hpass, hlisted, ⟨hzero, hall⟩, hlive⟩ := h
  simp [State.discards, hpass, hlisted, validSender, broadcast, hzero, hall, hlive, hkind]

/-- R16, R17: a frame from a member, of a kind that its role may send, is presence and then the kind's own. -/
theorem uplink_member {s : State} {k : UplinkKind} {c : Chan} {f : UplinkFrame} {i : SlotId} {role : Role}
    {g : Machine.Group} (t : Instant) (h : FromMember s c f i role g) (hk : k ≠ .checkIn)
    (ha : k.allowed role = true) :
    uplink k c f (s.tick t)
      = ((s.tick t).presence i f.sender).takeKind k i role f (memberAct k f i) := by
  obtain ⟨harrives, hentry, hplace, hgroup, hchannel⟩ := h
  have hdiscards : (s.tick t).discards k c f = false := discards_false (s := s) harrives fun hc => absurd hc hk
  have hold : g.oldCheckIn k c = false := by simp [Group.oldCheckIn, hk]
  simp only [uplink, State.intake, hdiscards, entry_tick, hentry, memberPlace_tick, hplace, State.memberFrame,
    group_tick, hgroup, hchannel, hold, ha, Bool.false_eq_true, if_false, if_true]

/-- R17: a kind that carries no report of the loco goes to its block right after presence. -/
theorem takeKind_plain {s : State} {k : UplinkKind} {i : SlotId} {role : Role} {f : UplinkFrame} {act : State → State}
    (h : role ≠ .loco ∨ k.carriesMotion = false) (hk : k ≠ .attachAck) : s.takeKind k i role f act = act s := by
  have hno : ¬ (role = .loco ∧ k.carriesMotion = true) := by
    rintro ⟨hl, hc⟩
    rcases h with h | h
    · exact h hl
    · simp [hc] at h
  simp [State.takeKind, hno, hk]

theorem exec_member {s : State} {k : UplinkKind} {c : Chan} {f : UplinkFrame} {i : SlotId} {role : Role}
    {g : Machine.Group} (t : Instant) (h : FromMember s c f i role g) (hk : k ≠ .checkIn)
    (ha : k.allowed role = true) :
    exec (uplinkCommand k t c f) s
      = .next (((s.tick t).presence i f.sender).takeKind k i role f (memberAct k f i)).finish := by
  rw [exec_uplink, uplink_member t h hk ha]

/-- The same for a kind that carries no report of the loco. -/
theorem exec_member_plain {s : State} {k : UplinkKind} {c : Chan} {f : UplinkFrame} {i : SlotId} {role : Role}
    {g : Machine.Group} (t : Instant) (h : FromMember s c f i role g) (hk : k ≠ .checkIn ∧ k ≠ .attachAck)
    (ha : k.allowed role = true) (hm : role ≠ .loco ∨ k.carriesMotion = false) :
    exec (uplinkCommand k t c f) s = .next (memberAct k f i ((s.tick t).presence i f.sender)).finish := by
  rw [exec_member t h hk.1 ha, takeKind_plain hm hk.2]

/-- R12: the sender of a member's frame has its role in the group. -/
theorem fromMember_role {s : State} {c : Chan} {f : UplinkFrame} {i : SlotId} {role : Role} {g : Machine.Group}
    (h : FromMember s c f i role g) : g.roleOf f.sender = some role := by
  obtain ⟨x, hx, hrole⟩ := memberPlace_spec h.place
  rw [h.group] at hx
  exact Option.some.inj hx ▸ hrole

/-! ### Groups that agree with the warn threshold -/

/-- R70 to R72, for one record. -/
def WarnOk (warn : Nat) (g : Machine.Group) : Prop :=
  (g.state = .active → g.warned warn = false) ∧ (g.state = .degraded → g.warned warn = true)

/-- A record that agrees with the threshold is left as it is by a judgement. -/
theorem judged_of_ok {warn : Nat} {g : Machine.Group} (h : WarnOk warn g) : judged warn g = g ∧ turns warn g = false := by
  obtain ⟨hactive, hdegraded⟩ := h
  unfold judged turns
  cases hs : g.state <;> simp_all

/-- R72: a DEGRADED record above the threshold turns ACTIVE. -/
theorem judged_up {warn : Nat} {g : Machine.Group} (hs : g.state = .degraded) (hw : g.warned warn = false) :
    judged warn g = noticed { g with state := .active } .linkRestored .leader ∧ turns warn g = true := by
  simp [judged, turns, hs, hw]

theorem warned_eq_false {warn : Nat} {g : Machine.Group} :
    g.warned warn = false ↔ warn < g.loco.level ∧ warn < g.leader.level := by
  simp [Group.warned]

theorem warned_eq_true {warn : Nat} {g : Machine.Group} :
    g.warned warn = true ↔ g.loco.level ≤ warn ∨ g.leader.level ≤ warn := by
  simp [Group.warned]

/-- R67: the refresh of a crew member leaves the warn condition. -/
theorem refreshed_crew {warn : Nat} {g : Machine.Group} (r : Radio) (h : WarnOk warn g) :
    refreshed warn g r .crew = g.setLevel r 7 .crew
      ∧ refreshMarks warn g r .crew = decide (g.levelOf r .crew ≤ warn) := by
  have hok : WarnOk warn (leveled g r .crew) := h
  obtain ⟨hjudged, hturns⟩ := judged_of_ok hok
  refine ⟨hjudged, ?_⟩
  simp [refreshMarks, hturns, Role.linkCause]

/-- R67, R72, R78: the refresh of the leader. -/
theorem refreshed_leader {warn : Nat} {g : Machine.Group} (r : Radio) (hwarn : warn < 7) (h : WarnOk warn g) :
    refreshed warn g r .leader
        = (if g.state = .degraded ∧ warn < g.loco.level then
            noticed { leveled g r .leader with state := .active } .linkRestored .leader
          else leveled g r .leader)
      ∧ refreshMarks warn g r .leader = (decide (g.leader.level ≤ warn) || g.causes.leaderLink) := by
  obtain ⟨hactive, hdegraded⟩ := h
  rw [warned_eq_false] at hactive
  rw [warned_eq_true] at hdegraded
  by_cases hup : g.state = .degraded ∧ warn < g.loco.level
  · have hbelow : g.leader.level ≤ warn := (hdegraded hup.1).resolve_left (Nat.not_le.mpr hup.2)
    have hwarned : (leveled g r .leader).warned warn = false :=
      warned_eq_false.mpr ⟨hup.2, hwarn⟩
    obtain ⟨hjudged, -⟩ := judged_up (g := leveled g r .leader) hup.1 hwarned
    rw [if_pos hup]
    exact ⟨hjudged, by simp [refreshMarks, Group.levelOf, hbelow]⟩
  · have hok : WarnOk warn (leveled g r .leader) :=
      ⟨fun hs => warned_eq_false.mpr ⟨(hactive hs).1, hwarn⟩,
        fun hs => warned_eq_true.mpr (.inl (Nat.not_lt.mp fun hl => hup ⟨hs, hl⟩))⟩
    obtain ⟨hjudged, hturns⟩ := judged_of_ok hok
    rw [if_neg hup]
    refine ⟨hjudged, ?_⟩
    simp [refreshMarks, hturns, Group.levelOf, Role.linkCause, Causes.has]
    rfl

/-- R67, R72, R78: the refresh of the loco. -/
theorem refreshed_loco {warn : Nat} {g : Machine.Group} (r : Radio) (hwarn : warn < 7) (h : WarnOk warn g) :
    refreshed warn g r .loco
        = (if g.state = .degraded ∧ warn < g.leader.level then
            noticed { leveled g r .loco with state := .active } .linkRestored .leader
          else leveled g r .loco)
      ∧ refreshMarks warn g r .loco = (decide (g.loco.level ≤ warn) || g.causes.locoLink) := by
  obtain ⟨hactive, hdegraded⟩ := h
  rw [warned_eq_false] at hactive
  rw [warned_eq_true] at hdegraded
  by_cases hup : g.state = .degraded ∧ warn < g.leader.level
  · have hbelow : g.loco.level ≤ warn := (hdegraded hup.1).resolve_right (Nat.not_le.mpr hup.2)
    have hwarned : (leveled g r .loco).warned warn = false :=
      warned_eq_false.mpr ⟨hwarn, hup.2⟩
    obtain ⟨hjudged, -⟩ := judged_up (g := leveled g r .loco) hup.1 hwarned
    rw [if_pos hup]
    exact ⟨hjudged, by simp [refreshMarks, Group.levelOf, hbelow]⟩
  · have hok : WarnOk warn (leveled g r .loco) :=
      ⟨fun hs => warned_eq_false.mpr ⟨hwarn, (hactive hs).2⟩,
        fun hs => warned_eq_true.mpr (.inr (Nat.not_lt.mp fun hl => hup ⟨hs, hl⟩))⟩
    obtain ⟨hjudged, hturns⟩ := judged_of_ok hok
    rw [if_neg hup]
    refine ⟨hjudged, ?_⟩
    simp [refreshMarks, hturns, Group.levelOf, Role.linkCause, Causes.has]
    rfl

theorem warnOk_answered {warn : Nat} {g : Machine.Group} (r : Radio) (h : WarnOk warn g) : WarnOk warn (g.answered r) := by
  rw [answered_eq]
  exact h

/-- Settles O22: presence is the answer's whole effect, and the refreshed records are the ones written out. -/
theorem answerFromHandset : Obligations.AnswerFromHandset := by
  intro t c f i g s hsound hwarn
  refine ⟨fun h _ => ?_, fun h => ?_⟩ <;>
    have hok := warnOk_answered f.sender (hsound i g h.group)
  · have hexec := exec_member_plain (k := .answer) t h (by simp) rfl (by simp)
    rw [show exec (.answer t c f) s = _ from hexec, memberAct,
      presence_eq (s := s.tick t) h.group (fromMember_role h)]
    simp only [slot_tick, tick_device, refreshed_crew f.sender hok, answered_levelOf]
    rw [answered_eq]
    rfl
  · have hexec := exec_member_plain (k := .answer) t h (by simp) rfl (by simp)
    rw [show exec (.answer t c f) s = _ from hexec, memberAct,
      presence_eq (s := s.tick t) h.group (fromMember_role h)]
    simp only [slot_tick, tick_device, refreshed_leader f.sender hwarn hok, Bool.or_assoc]
    rw [answered_eq]
    rfl

/-! ### The loco's report -/

/-- R18: the loco record after a report. -/
def reported (g : Machine.Group) (f : UplinkFrame) : Machine.Group :=
  { g with
    loco := { g.loco with motion := motionOf f.motion, speed := some (speedOf f.speed), odometer := some f.odometer } }

theorem motionOf_standing {n : Nat} : motionOf n = .standing ↔ n = 0 := by
  unfold motionOf
  split <;> simp_all

/-- R18, R79: the report, and OVERSPEED removed where the loco stands. -/
theorem locoUpdate_setSlot (s : State) (i : SlotId) (b : Bool) (g : Machine.Group) (f : UplinkFrame) :
    (s.setSlot i { changed := b, body := .held g }).locoUpdate i f
      = s.setSlot i
          { changed := b || (decide (f.motion = 0) && g.causes.overspeed),
            body := .held (if f.motion = 0 then { reported g f with causes := g.causes.del .overspeed }
              else reported g f) } := by
  unfold State.locoUpdate
  simp only [modGroup_setSlot, motionOf_standing]
  split
  · next h =>
    rw [removeCause_setSlot, h]
    simp [reported, Causes.has, h]
  · next h => simp [reported, h]

/-- R116: without an approach record there is nothing to check. -/
theorem approachCheck_none {s : State} {i : SlotId} {g : Machine.Group} (x o : Nat) (m : Motion) (h : s.group i = some g)
    (ha : g.approach = none) : s.approachCheck i x o m = s := by
  simp [State.approachCheck, h, ha]

/-- R17, R18, R116: a kind of the loco that carries its report: the report, the kind's block, the approach check. -/
theorem takeKind_loco {s : State} {k : UplinkKind} {i : SlotId} {f : UplinkFrame} {act : State → State}
    (h : k.carriesMotion = true) :
    s.takeKind k i .loco f act
      = (act (s.locoUpdate i f)).approachCheck i (speedOf f.speed) f.odometer (motionOf f.motion) := by
  simp [State.takeKind, h]

/-- The record after presence and report of the loco. -/
def locoReported (warn : Nat) (g : Machine.Group) (f : UplinkFrame) : Machine.Group :=
  if f.motion = 0 then
    { reported (refreshed warn (g.answered f.sender) f.sender .loco) f with
      causes := (refreshed warn (g.answered f.sender) f.sender .loco).causes.del .overspeed }
  else reported (refreshed warn (g.answered f.sender) f.sender .loco) f

@[simp] theorem noticed_approach (g : Machine.Group) (n : Notice) (d : NoticeTo) :
    (noticed g n d).approach = g.approach := rfl

@[simp] theorem judged_approach (warn : Nat) (g : Machine.Group) : (judged warn g).approach = g.approach := by
  unfold judged
  split
  · rfl
  · split <;> rfl

@[simp] theorem refreshed_approach (warn : Nat) (g : Machine.Group) (r : Radio) (role : Role) :
    (refreshed warn g r role).approach = g.approach := by
  cases role <;> simp [refreshed, leveled, Role.linkCause, Group.setLevel]

@[simp] theorem answered_approach (g : Machine.Group) (r : Radio) : (g.answered r).approach = g.approach := by
  rw [answered_eq]

theorem locoReported_approach (warn : Nat) (g : Machine.Group) (f : UplinkFrame) :
    (locoReported warn g f).approach = g.approach := by
  unfold locoReported
  split <;> simp [reported]

/-- Settles O23: presence and report are two writes of the slot, and without an approach record no check follows. -/
theorem locoReport : Obligations.LocoReport := by
  intro t c f i g s hsound hwarn h happroach cmd hcmd
  have hok := warnOk_answered f.sender (hsound i g h.group)
  have hexec : ∀ k, k = .answer ∨ k = .status → exec (uplinkCommand k t c f) s
      = .next (((s.tick t).presence i f.sender).locoUpdate i f).finish := by
    intro k hk
    have hpresent := presence_eq (s := s.tick t) h.group (fromMember_role h)
    rw [exec_member t h (by rcases hk with rfl | rfl <;> simp) (by rcases hk with rfl | rfl <;> rfl),
      takeKind_loco (by rcases hk with rfl | rfl <;> rfl)]
    have hact : ∀ v, memberAct k f i v = v := by rcases hk with rfl | rfl <;> exact fun _ => rfl
    rw [hact, hpresent, locoUpdate_setSlot]
    rw [approachCheck_none _ _ _ (group_setSlot_held ..)]
    exact (locoReported_approach s.device.warn g f).trans happroach
  have hboth : exec cmd s = .next (((s.tick t).presence i f.sender).locoUpdate i f).finish := by
    rcases List.mem_cons.mp hcmd with rfl | hcmd
    · exact hexec .answer (.inl rfl)
    · rw [List.mem_singleton.mp hcmd]
      exact hexec .status (.inr rfl)
  rw [hboth, presence_eq (s := s.tick t) h.group (fromMember_role h), locoUpdate_setSlot]
  simp only [slot_tick, tick_device, refreshed_loco f.sender hwarn hok]
  obtain ⟨w, hw⟩ := answered_window g f.sender
  rw [hw]
  refine next_setSlot_congr ?_
  dsimp only
  by_cases hm : f.motion = 0 <;> by_cases hup : g.state = .degraded ∧ s.device.warn < g.leader.level
  · rw [if_pos hup, if_pos hup, if_pos hm, if_pos hm]
    simp only [Bool.or_assoc]
    rfl
  · rw [if_neg hup, if_neg hup, if_pos hm, if_pos hm]
    simp only [Bool.or_assoc]
    rfl
  · rw [if_pos hup, if_pos hup, if_neg hm, if_neg hm]
    simp only [Bool.or_assoc]
    rfl
  · rw [if_neg hup, if_neg hup, if_neg hm, if_neg hm]
    simp only [Bool.or_assoc]
    rfl

end Sys2Proof.SlotProofs
end

section
/-!
The operations on a channel's requests and frame in flight (R127, R128), as facts about what is pending at a source and
kind, and the reports and instants that are one or two such operations.
-/
namespace Sys2Proof.RecordProofs
open Sys2Proof Sys2Proof.Machine Sys2Proof.Machine.Laws Sys2Proof.CommandProofs Sys2Proof.SlotProofs

/-! ### The request of a source and kind -/

/-- Whether a request stands at a source and is of a kind. -/
def matchesReq (src : Source) (k : ReqKind) (r : Request) : Bool := r.source == src && r.kind == k

theorem reqsFind_eq (src : Source) (k : ReqKind) (l : List Request) : reqsFind src k l = l.find? (matchesReq src k) := rfl

theorem matchesReq_iff {src : Source} {k : ReqKind} {r : Request} :
    matchesReq src k r = true ↔ r.source = src ∧ r.kind = k := by simp [matchesReq]

theorem matchesReq_of_key {src : Source} {k : ReqKind} {r q : Request} (h : r.key = q.key) :
    matchesReq src k r = matchesReq src k q := by
  obtain ⟨hs, hk⟩ := key_inj.mp h
  rw [matchesReq, matchesReq, hs, hk]

/-- R128: the request that is raised is the pending one of its source and kind. -/
theorem reqsFind_raise_self (src : Source) (k : ReqKind) (b : ReqBody) (l : List Request) :
    reqsFind src k (reqsRaise { source := src, kind := k, body := b } l)
      = some { source := src, kind := k, body := b } := by
  set x : Request := { source := src, kind := k, body := b } with hx
  have hself : matchesReq src k x = true := matchesReq_iff.mpr ⟨rfl, rfl⟩
  rw [reqsFind_eq, reqsRaise]
  induction l with
  | nil => simp [insertBy, hself]
  | cons y ys ih =>
    unfold insertBy
    split
    · simp [hself]
    · split
      · simp [hself]
      · next hne =>
        have hy : matchesReq src k y = false := by
          refine Bool.eq_false_iff.mpr fun hm => hne (key_inj.mpr ?_)
          obtain ⟨hs, hk⟩ := matchesReq_iff.mp hm
          exact ⟨hs.symm, hk.symm⟩
        rw [List.find?_cons_of_neg (by simp [hy])]
        exact ih

/-- R128: raising a request leaves every other source and kind. -/
theorem reqsFind_raise_ne {src : Source} {k : ReqKind} {x : Request} (l : List Request)
    (h : ¬ (x.source = src ∧ x.kind = k)) : reqsFind src k (reqsRaise x l) = reqsFind src k l := by
  have hx : ¬ matchesReq src k x = true := fun hm => h (matchesReq_iff.mp hm)
  rw [reqsFind_eq, reqsFind_eq, reqsRaise]
  induction l with
  | nil => simp [insertBy, hx]
  | cons y ys ih =>
    unfold insertBy
    split
    · rw [List.find?_cons_of_neg hx]
    · split
      · next hkey =>
        have hy : ¬ matchesReq src k y = true := matchesReq_of_key hkey ▸ hx
        rw [List.find?_cons_of_neg hx, List.find?_cons_of_neg hy]
      · by_cases hy : matchesReq src k y = true
        · rw [List.find?_cons_of_pos hy, List.find?_cons_of_pos hy]
        · rw [List.find?_cons_of_neg hy, List.find?_cons_of_neg hy, ih]

/-- R128: a withdrawn request is pending no more. -/
@[simp] theorem reqsFind_withdraw_self (src : Source) (k : ReqKind) (l : List Request) :
    reqsFind src k (reqsWithdraw src k l) = none := by
  refine List.find?_eq_none.mpr fun r hr => ?_
  have := (mem_reqsWithdraw.mp hr).2
  simpa using this

/-- R128: a withdrawal leaves every other source and kind. -/
theorem reqsFind_withdraw_ne {src src' : Source} {k k' : ReqKind} (l : List Request) (h : ¬ (src' = src ∧ k' = k)) :
    reqsFind src k (reqsWithdraw src' k' l) = reqsFind src k l := by
  rw [reqsFind_eq, reqsFind_eq, reqsWithdraw, List.find?_filter]
  refine congrArg (fun p => l.find? p) (funext fun r => ?_)
  by_cases hr : matchesReq src k r = true
  · obtain ⟨rfl, rfl⟩ := matchesReq_iff.mp hr
    have hne : (r.source == src' && r.kind == k') = false := by
      refine Bool.eq_false_iff.mpr fun hm => h ?_
      simp only [Bool.and_eq_true, beq_iff_eq] at hm
      exact ⟨hm.1.symm, hm.2.symm⟩
    simp [hr, hne]
  · simp [Bool.eq_false_iff.mpr hr]

/-- R128: with nothing of its source and kind in the list a withdrawal changes nothing. -/
theorem reqsWithdraw_eq_self {src : Source} {k : ReqKind} {l : List Request}
    (h : ∀ r ∈ l, ¬ (r.source = src ∧ r.kind = k)) : reqsWithdraw src k l = l :=
  List.filter_eq_self.mpr fun r hr => by simpa [imp_iff_not_or] using h r hr

theorem reqsWithdraw_absent {src : Source} {k : ReqKind} {l : List Request} (h : reqsFind src k l = none) :
    reqsWithdraw src k l = l :=
  reqsWithdraw_eq_self fun r hr hm => List.find?_eq_none.mp h r hr (matchesReq_iff.mpr hm)

/-- R128: in a set a request that is withdrawn and raised again is one that is raised in its place. -/
theorem reqsRaise_withdraw {src : Source} {k : ReqKind} {b : ReqBody} {l : List Request} (h : RequestsSound l) :
    reqsRaise { source := src, kind := k, body := b } (reqsWithdraw src k l)
      = reqsRaise { source := src, kind := k, body := b } l := by
  set x : Request := { source := src, kind := k, body := b } with hx
  have hself : ∀ y : Request, (y.source = src ∧ y.kind = k) ↔ x.key = y.key := fun y => by
    rw [key_inj]
    exact ⟨fun h => ⟨h.1.symm, h.2.symm⟩, fun h => ⟨h.1.symm, h.2.symm⟩⟩
  unfold reqsRaise
  induction l with
  | nil => rfl
  | cons y ys ih =>
    obtain ⟨hy, hys⟩ := List.pairwise_cons.mp h
    by_cases hm : y.source = src ∧ y.kind = k
    · have hkey := (hself y).mp hm
      have hrest : reqsWithdraw src k ys = ys := reqsWithdraw_eq_self fun r hr hr' => by
        have hlt := hy r hr
        have := (hself r).mp hr'
        omega
      have hdrop : reqsWithdraw src k (y :: ys) = ys := by
        rw [← hrest]
        simp [reqsWithdraw, hm.1, hm.2]
      rw [hdrop]
      have hgoal : insertBy Request.key x (y :: ys) = x :: ys := by simp [insertBy, hkey]
      rw [hgoal]
      cases ys with
      | nil => rfl
      | cons z zs =>
        have := hy z (by simp)
        simp [insertBy, hkey, this]
    · have hkeep : reqsWithdraw src k (y :: ys) = y :: reqsWithdraw src k ys := by
        rcases not_and_or.mp hm with hs | hk
        · simp [reqsWithdraw, hs]
        · simp [reqsWithdraw, hk]
      have hne : ¬ x.key = y.key := fun hkey => hm ((hself y).mpr hkey)
      rw [hkeep]
      unfold insertBy
      by_cases hlt : x.key < y.key
      · have hrest : reqsWithdraw src k ys = ys := reqsWithdraw_eq_self fun r hr hr' => by
          have hlt' := hy r hr
          have := (hself r).mp hr'
          omega
        rw [if_pos hlt, if_pos hlt, hrest]
      · rw [if_neg hlt, if_neg hne, if_neg hlt, if_neg hne, ih hys]

/-! ### The pending requests of a state -/

theorem isPending_eq (s : State) (c : Chan) (src : Source) (k : ReqKind) :
    s.isPending c src k = (reqsFind src k (s.chan c).reqs).isSome := rfl

theorem isPending_congr {s u : State} {c : Chan} {src : Source} {k : ReqKind}
    (h : reqsFind src k (u.chan c).reqs = reqsFind src k (s.chan c).reqs) : u.isPending c src k = s.isPending c src k := by
  rw [isPending_eq, isPending_eq, h]

theorem reqs_raise (s : State) (c d : Chan) (src : Source) (k : ReqKind) (b : ReqBody) :
    ((s.raise c src k b).chan d).reqs
      = if c = d then reqsRaise { source := src, kind := k, body := b } (s.chan d).reqs else (s.chan d).reqs := by
  rw [State.raise, chan_modChan]
  split
  · next h => rw [h]
  · rfl

theorem reqs_withdraw (s : State) (c d : Chan) (src : Source) (k : ReqKind) :
    ((s.withdraw c src k).chan d).reqs = if c = d then reqsWithdraw src k (s.chan d).reqs else (s.chan d).reqs := by
  rw [State.withdraw, chan_modChan]
  split
  · next h => rw [h]
  · rfl

@[simp] theorem isPending_raise_self (s : State) (c : Chan) (src : Source) (k : ReqKind) (b : ReqBody) :
    (s.raise c src k b).isPending c src k = true := by
  rw [isPending_eq, reqs_raise, if_pos rfl, reqsFind_raise_self]
  rfl

theorem isPending_raise_ne (s : State) {c d : Chan} {src src' : Source} {k k' : ReqKind} (b : ReqBody)
    (h : ¬ (c = d ∧ src = src' ∧ k = k')) : (s.raise c src k b).isPending d src' k' = s.isPending d src' k' := by
  refine isPending_congr ?_
  rw [reqs_raise]
  split
  · next hc => exact reqsFind_raise_ne _ fun hm => h ⟨hc, hm⟩
  · rfl

@[simp] theorem isPending_withdraw_self (s : State) (c : Chan) (src : Source) (k : ReqKind) :
    (s.withdraw c src k).isPending c src k = false := by
  rw [isPending_eq, reqs_withdraw, if_pos rfl, reqsFind_withdraw_self]
  rfl

theorem isPending_withdraw_ne (s : State) {c d : Chan} {src src' : Source} {k k' : ReqKind}
    (h : ¬ (c = d ∧ src = src' ∧ k = k')) : (s.withdraw c src k).isPending d src' k' = s.isPending d src' k' := by
  refine isPending_congr ?_
  rw [reqs_withdraw]
  split
  · next hc => exact reqsFind_withdraw_ne _ fun hm => h ⟨hc, hm⟩
  · rfl

/-- A withdrawal makes nothing pending. -/
theorem isPending_withdraw_of_not {s : State} {c d : Chan} {src src' : Source} {k k' : ReqKind}
    (h : s.isPending d src' k' = false) : (s.withdraw c src k).isPending d src' k' = false := by
  by_cases heq : c = d ∧ src = src' ∧ k = k'
  · obtain ⟨rfl, rfl, rfl⟩ := heq
    exact isPending_withdraw_self ..
  · rw [isPending_withdraw_ne s heq, h]

/-- What is pending depends on the channel records alone. -/
theorem isPending_of_chans {s u : State} (h : u.chans = s.chans) (c : Chan) (src : Source) (k : ReqKind) :
    u.isPending c src k = s.isPending c src k := isPending_congr (by rw [chan_congr h])

/-! ### Frames in flight that lose their requester -/

/-- The same change made on every channel in turn. -/
theorem chan_foldl_modChan (f : Channel → Channel) (l : List Chan) (hl : l.Nodup) (s : State) (c : Chan) :
    (l.foldl (fun s d => s.modChan d f) s).chan c = if c ∈ l then f (s.chan c) else s.chan c := by
  induction l generalizing s with
  | nil => rfl
  | cons d l ih =>
    obtain ⟨hd, hl⟩ := List.nodup_cons.mp hl
    rw [List.foldl_cons, ih hl, chan_modChan]
    by_cases hdc : d = c
    · subst hdc
      simp [hd]
    · simp [hdc, Ne.symm hdc]

theorem chan_orphan (s : State) (i : SlotId) (p : Frame → Bool) (c : Chan) :
    (s.orphan i p).chan c = { s.chan c with inFlight := orphanIf i p (s.chan c).inFlight } := by
  have := chan_foldl_modChan (fun ch => { ch with inFlight := orphanIf i p ch.inFlight }) channels
    (List.nodup_finRange 8) s c
  exact this.trans (if_pos (List.mem_finRange c))

/-- An operation that changes channel records alone: every other part of the state is as it was. -/
theorem orphan_eq (s : State) (i : SlotId) (p : Frame → Bool) : ∃ v, s.orphan i p = { s with chans := v } := by
  unfold State.orphan
  generalize channels = l
  induction l generalizing s with
  | nil => exact ⟨_, rfl⟩
  | cons d l ih =>
    obtain ⟨v, hv⟩ := ih (s.orphanOn d i p)
    exact ⟨v, hv⟩

@[simp] theorem orphan_slots (s : State) (i : SlotId) (p : Frame → Bool) : (s.orphan i p).slots = s.slots := by
  obtain ⟨v, hv⟩ := orphan_eq s i p
  rw [hv]

@[simp] theorem orphan_table (s : State) (i : SlotId) (p : Frame → Bool) : (s.orphan i p).table = s.table := by
  obtain ⟨v, hv⟩ := orphan_eq s i p
  rw [hv]

@[simp] theorem orphan_attention (s : State) (i : SlotId) (p : Frame → Bool) :
    (s.orphan i p).attention = s.attention := by
  obtain ⟨v, hv⟩ := orphan_eq s i p
  rw [hv]

@[simp] theorem orphan_pairings (s : State) (i : SlotId) (p : Frame → Bool) : (s.orphan i p).pairings = s.pairings := by
  obtain ⟨v, hv⟩ := orphan_eq s i p
  rw [hv]

@[simp] theorem orphan_examine (s : State) (i : SlotId) (p : Frame → Bool) : (s.orphan i p).examine = s.examine := by
  obtain ⟨v, hv⟩ := orphan_eq s i p
  rw [hv]

@[simp] theorem slot_orphan (s : State) (i j : SlotId) (p : Frame → Bool) : (s.orphan i p).slot j = s.slot j :=
  slot_congr (orphan_slots s i p) j

@[simp] theorem group_orphan (s : State) (i j : SlotId) (p : Frame → Bool) : (s.orphan i p).group j = s.group j :=
  group_congr (orphan_slots s i p) j

@[simp] theorem isPending_orphan (s : State) (i : SlotId) (p : Frame → Bool) (c : Chan) (src : Source) (k : ReqKind) :
    (s.orphan i p).isPending c src k = s.isPending c src k := isPending_congr (by rw [chan_orphan])

@[simp] theorem slot_raise (s : State) (c : Chan) (src : Source) (k : ReqKind) (b : ReqBody) (i : SlotId) :
    (s.raise c src k b).slot i = s.slot i := rfl

@[simp] theorem slot_withdraw (s : State) (c : Chan) (src : Source) (k : ReqKind) (i : SlotId) :
    (s.withdraw c src k).slot i = s.slot i := rfl

@[simp] theorem slot_modChan (s : State) (c : Chan) (f : Channel → Channel) (i : SlotId) :
    (s.modChan c f).slot i = s.slot i := rfl

@[simp] theorem slot_setChan (s : State) (c : Chan) (v : Channel) (i : SlotId) : (s.setChan c v).slot i = s.slot i := rfl

@[simp] theorem isPending_mark (s : State) (i : SlotId) (c : Chan) (src : Source) (k : ReqKind) :
    (s.mark i).isPending c src k = s.isPending c src k := rfl

@[simp] theorem isPending_setSlot (s : State) (i : SlotId) (v : Slot) (c : Chan) (src : Source) (k : ReqKind) :
    (s.setSlot i v).isPending c src k = s.isPending c src k := rfl

@[simp] theorem isPending_modGroup (s : State) (i : SlotId) (f : Machine.Group → Machine.Group) (c : Chan) (src : Source)
    (k : ReqKind) : (s.modGroup i f).isPending c src k = s.isPending c src k :=
  isPending_of_chans (modGroup_chans s i f) c src k

@[simp] theorem isPending_toLeader (s : State) (i : SlotId) (n : Notice) (c : Chan) (src : Source) (k : ReqKind) :
    (s.toLeader i n).isPending c src k = s.isPending c src k := isPending_modGroup s i _ c src k

@[simp] theorem isPending_toRadio (s : State) (i : SlotId) (r : Radio) (n : Notice) (c : Chan) (src : Source)
    (k : ReqKind) : (s.toRadio i r n).isPending c src k = s.isPending c src k := isPending_modGroup s i _ c src k

@[simp] theorem isPending_tick (s : State) (t : Instant) (c : Chan) (src : Source) (k : ReqKind) :
    (s.tick t).isPending c src k = s.isPending c src k := rfl

/-! ### Writing a channel -/

@[simp] theorem setChan_setChan (s : State) (c : Chan) (v w : Channel) : (s.setChan c v).setChan c w = s.setChan c w := by
  simp [State.setChan]

theorem setChan_same (s : State) (c : Chan) : s.setChan c (s.chan c) = s := by
  simp [State.setChan, chan_def]

theorem modChan_setChan (s : State) (c : Chan) (v : Channel) (f : Channel → Channel) :
    (s.setChan c v).modChan c f = s.setChan c (f v) := by
  simp [State.modChan]

theorem raise_setChan (s : State) (c : Chan) (v : Channel) (src : Source) (k : ReqKind) (b : ReqBody) :
    (s.setChan c v).raise c src k b
      = s.setChan c { v with reqs := reqsRaise { source := src, kind := k, body := b } v.reqs } :=
  modChan_setChan s c v _

theorem withdraw_setChan (s : State) (c : Chan) (v : Channel) (src : Source) (k : ReqKind) :
    (s.setChan c v).withdraw c src k = s.setChan c { v with reqs := reqsWithdraw src k v.reqs } :=
  modChan_setChan s c v _

/-! ### Presence leaves the channels -/

@[simp] theorem removeCause_chans (s : State) (i : SlotId) (c : Cause) : (s.removeCause i c).chans = s.chans := by
  cases h : s.group i with
  | none => simp [State.removeCause, h]
  | some g => rw [removeCause_eq c h, setSlot_chans]

/-- Presence and refresh write one slot: everything else is as it was. -/
theorem refresh_eq_setSlot (s : State) (i : SlotId) (r : Radio) : s.refresh i r = s.setSlot i ((s.refresh i r).slot i) := by
  cases h : s.group i with
  | none => rw [refresh_free r h, setSlot_same]
  | some g =>
    cases hr : g.roleOf r with
    | none => rw [refresh_stranger h hr, setSlot_same]
    | some role => simp [refresh_eq h hr]

theorem presence_eq_setSlot (s : State) (i : SlotId) (r : Radio) :
    s.presence i r = s.setSlot i ((s.presence i r).slot i) := by
  unfold State.presence
  rw [refresh_eq_setSlot]
  cases h : s.group i with
  | none => rw [modGroup_free _ h]; simp
  | some g => rw [modGroup_eq _ h]; simp

@[simp] theorem presence_chans (s : State) (i : SlotId) (r : Radio) : (s.presence i r).chans = s.chans := by
  rw [presence_eq_setSlot, setSlot_chans]
@[simp] theorem presence_table (s : State) (i : SlotId) (r : Radio) : (s.presence i r).table = s.table := by
  rw [presence_eq_setSlot, setSlot_table]
@[simp] theorem presence_attention (s : State) (i : SlotId) (r : Radio) :
    (s.presence i r).attention = s.attention := by rw [presence_eq_setSlot, setSlot_attention]
@[simp] theorem presence_pairings (s : State) (i : SlotId) (r : Radio) : (s.presence i r).pairings = s.pairings := by
  rw [presence_eq_setSlot, setSlot_pairings]
@[simp] theorem presence_examine (s : State) (i : SlotId) (r : Radio) : (s.presence i r).examine = s.examine := by
  rw [presence_eq_setSlot, setSlot_examine]
@[simp] theorem presence_device (s : State) (i : SlotId) (r : Radio) : (s.presence i r).device = s.device := by
  rw [presence_eq_setSlot, setSlot_device]
@[simp] theorem presence_now (s : State) (i : SlotId) (r : Radio) : (s.presence i r).now = s.now := by
  rw [presence_eq_setSlot, setSlot_now]
@[simp] theorem chan_presence (s : State) (i : SlotId) (r : Radio) (c : Chan) : (s.presence i r).chan c = s.chan c :=
  chan_congr (presence_chans s i r) c
@[simp] theorem isPending_presence (s : State) (i : SlotId) (r : Radio) (c : Chan) (src : Source) (k : ReqKind) :
    (s.presence i r).isPending c src k = s.isPending c src k := isPending_of_chans (presence_chans s i r) c src k
theorem slot_presence_ne (s : State) {i j : SlotId} (r : Radio) (h : j ≠ i) : (s.presence i r).slot j = s.slot j := by
  rw [presence_eq_setSlot, slot_setSlot_ne _ _ (Ne.symm h)]
@[simp] theorem entry_presence (s : State) (i : SlotId) (r x : Radio) : (s.presence i r).entry x = s.entry x := by
  simp [State.entry]

end Sys2Proof.RecordProofs
end

section
/-!
Orders, acknowledgements and RESUME (R58 to R63, R80, R87, R89, R90, R100 to R112, R127): the member frames and reports whose
effect is a write of the group's slot and a few requests at its source.
-/
namespace Sys2Proof.FrameProofs
open Sys2Proof Sys2Proof.Machine Sys2Proof.Machine.Laws Sys2Proof.CommandProofs Sys2Proof.SlotProofs Sys2Proof.RecordProofs

/-! ### ORDER -/

theorem takenOrder_eq {f : UplinkFrame} {k : OrderKind} (h : orderKindOf f.orderKind = some k) :
    Machine.orderOf f
      = some { kind := k, arg := if k = .count then min f.argument 31 else 0, seq := f.sequence % 16 } := by
  rw [Machine.orderOf, h]
  cases k <;> rfl

/-- R101: an order of an ACTIVE or DEGRADED group with no move record comes to the last two checks. -/
theorem orderAct_eq {s : State} {i : SlotId} {g : Machine.Group} {o : Order} {f : UplinkFrame} (hg : s.group i = some g)
    (hstate : g.state = .active ∨ g.state = .degraded) (hmove : g.move = none) (ho : Machine.orderOf f = some o) :
    s.orderAct f i
      = match g.stopPending o with
        | some n => s.toLeader i (.stopPending n)
        | none => if g.sequenceClash o then s.toRadio i f.sender .notAllowed else s.takeOrder i g o := by
  unfold State.orderAct
  rw [hg, ho]
  rcases hstate with h | h <;> simp [h, hmove] <;> rfl

/-- Settles O25: the order is taken with its RELAY, or answered STOP PENDING. -/
theorem orderTaken : Obligations.OrderTaken := by
  intro t c f i g g1 k s h hg1 hstate hmove hk
  have hexec : exec (.order t c f) s = .next (((s.tick t).presence i f.sender).orderAct f i).finish :=
    exec_member_plain (k := .order) t h (by simp) rfl (by simp)
  rw [hexec, orderAct_eq hg1 hstate hmove (takenOrder_eq hk)]
  refine ⟨fun hnone => ?_, fun o ho hstop hne => ?_⟩
  · simp only [Group.stopPending, Group.sequenceClash, State.takeOrder, hnone]
    rw [modGroup_eq _ hg1]
    rfl
  · simp only [Group.stopPending, ho, hstop, ne_eq, hne, not_false_eq_true, and_self, if_true]
    rw [toLeader_eq _ hg1]
    rfl

/-! ### HALT-ACK -/

/-- R80: a HALT-ACK with STOP_UNCONFIRMED present. -/
theorem haltAckAct_eq {s : State} {i : SlotId} {g : Machine.Group} (hg : s.group i = some g)
    (h : g.causes.stopUnconfirmed = true) :
    s.haltAckAct i = s.setSlot i
      { changed := true,
        body := .held { g with unconfirmed := none, causes := g.causes.del .stopUnconfirmed } } := by
  simp only [State.haltAckAct, hg, h, if_true]
  rw [modGroup_eq _ hg, removeCause_setSlot]
  simp [Causes.has, h]

/-- R17, R18: a frame from the loco that carries its report, of a group with no approach record after it: presence, the
report, and the kind's block. -/
theorem exec_loco_unsupervised {s : State} {k : UplinkKind} {c : Chan} {f : UplinkFrame} {i : SlotId}
    {g g1 : Machine.Group} (t : Instant) (h : FromMember s c f i .loco g) (hk : k ≠ .checkIn)
    (ha : k.allowed .loco = true) (hm : k.carriesMotion = true)
    (hg1 : (memberAct k f i (((s.tick t).presence i f.sender).locoUpdate i f)).group i = some g1)
    (hnone : g1.approach = none) :
    exec (uplinkCommand k t c f) s
      = .next (memberAct k f i (((s.tick t).presence i f.sender).locoUpdate i f)).finish := by
  rw [exec_member t h hk ha, takeKind_loco hm, approachCheck_none _ _ _ hg1 hnone]

/-- Settles O27: the cause and the record leave together, or nothing is there to leave. -/
theorem haltAcknowledged : Obligations.HaltAcknowledged := by
  intro t c f i g g1 s h hg1 happroach
  refine ⟨fun hcause => ?_, fun hcause => ?_⟩
  · have hact := haltAckAct_eq hg1 hcause
    rw [← hact]
    refine exec_loco_unsupervised (k := .haltAck) t h (by simp) rfl rfl (g1 := { g1 with
      unconfirmed := none, causes := g1.causes.del .stopUnconfirmed }) ?_ happroach
    rw [memberAct, hact, group_setSlot_held]
  · have hact : (((s.tick t).presence i f.sender).locoUpdate i f).haltAckAct i
        = ((s.tick t).presence i f.sender).locoUpdate i f := by simp [State.haltAckAct, hg1, hcause]
    have hexec := exec_loco_unsupervised (k := .haltAck) t h (by simp) rfl rfl
      (by rw [memberAct, hact]; exact hg1) happroach
    rw [memberAct, hact] at hexec
    exact hexec

/-! ### RESUME -/

/-- Settles O39: without causes the slot's write is the resumption, and the pending HALT turns into a BEAT. -/
theorem resumeFromHalt : Obligations.ResumeFromHalt := by
  intro t c f i g g1 s h hg1 hstate
  have hexec : exec (.resume t c f) s = .next (((s.tick t).presence i f.sender).resumeAct f i).finish :=
    exec_member_plain (k := .resume) t h (by simp) rfl (by simp)
  set v := (s.tick t).presence i f.sender with hv
  refine ⟨fun hcauses hwait hmove => ⟨v.resumeAct f i, hexec, ?_⟩, fun hcauses => ?_⟩
  · have hold : ∀ w : State, w.resumeOld g1 = w := fun w => by simp [State.resumeOld, hmove]
    have hst : g1.resumed v.device.warn = if g1.warned s.device.warn then .degraded else .active := by
      simp [Group.resumed, hwait, hv]
    have hact : v.resumeAct f i
        = State.resumeBeat g1 (if g1.warned s.device.warn then .degraded else .active) (v.setSlot i
            { changed := true, body := .held { g1 with
                state := if g1.warned s.device.warn then .degraded else .active
                notices := pushNotice g1.notices
                  { notice := .resumed (if g1.warned s.device.warn then .degraded else .active), dest := .leader } } }) := by
      simp only [State.resumeAct, hg1, hstate, if_true, (isEmpty_iff _).mpr hcauses, hold, hst]
      rw [modGroup_eq _ hg1, toLeader_setSlot, mark_setSlot]
      rfl
    have hne : (if g1.warned s.device.warn then GroupState.degraded else .active) ≠ .opening := by
      split <;> simp
    rw [hact]
    generalize (if g1.warned s.device.warn then GroupState.degraded else .active) = st at hne ⊢
    unfold State.resumeBeat
    by_cases hpending : s.isPending g1.channel (.phase g1.phase) .halt = true
    · simp only [isPending_setSlot, hv, isPending_presence, isPending_tick, hpending, if_true, if_neg hne]
      refine ⟨by simp, fun j hj => ?_, by simp, ?_, fun _ => isPending_raise_self ..⟩
      · simp [slot_setSlot_ne _ _ (Ne.symm hj), slot_presence_ne _ _ hj]
      · rw [isPending_raise_ne _ _ (by simp), isPending_withdraw_self]
    · simp only [isPending_setSlot, hv, isPending_presence, isPending_tick, hpending]
      refine ⟨by simp, fun j hj => ?_, by simp, by simpa using hpending, fun h => absurd h (by simp)⟩
      simp [slot_setSlot_ne _ _ (Ne.symm hj), slot_presence_ne _ _ hj]
  · have hempty : ¬ g1.causes.isEmpty = true := fun he => hcauses ((isEmpty_iff _).mp he)
    rw [hexec]
    simp only [State.resumeAct, hg1, hstate, if_true, if_neg hempty]
    rw [toLeader_eq _ hg1]
    rfl

/-! ### Reports of the modem -/

/-- R125: a channel whose frame in flight has ended at `now`. -/
def landed (ch : Channel) (now : Instant) : Channel :=
  { ch with inFlight := none, lastTxEnd := if ch.talk.isNone then some now else ch.lastTxEnd }

theorem report_eq {s : State} {c : Chan} {f : Frame} (done : Bool) (h : (s.chan c).inFlight = some f) :
    s.report c done = (s.setChan c (landed (s.chan c) s.now)).outcome c f done := by
  simp only [State.report, h]
  rfl

/-- R127: the report on an awaited frame of a group goes to the group. -/
theorem outcome_group {s : State} {c : Chan} {f : Frame} {p : Phase} {i : SlotId} (done : Bool)
    (hawaited : f.awaited = true) (hsource : f.source = .phase p) (howner : f.owner = some i) :
    s.outcome c f done = if done then s.groupDone c i f else s.groupRefused c i f := by
  simp [State.outcome, hawaited, hsource, howner]

/-- R58, R61, R63: the report on a beat of a group with no open window and no STARVED, handed over at position 0 or 1. -/
theorem beatDone_eq {s : State} {c : Chan} {i : SlotId} {g : Machine.Group} {target : Radio} {pos : Nat}
    (hg : s.group i = some g) (hbeats : g.state.beats = true) (hwindow : g.window = none)
    (hstarved : g.causes.starved = false) (hrole : (g.roleOf target).isSome = true) (hpos : pos ≠ 2) :
    s.beatDone c i target pos = s.setSlot i
      { changed := (s.slot i).changed,
        body := .held { g with
          dropped := 0
          position := (g.position + 1) % 3
          window := some { target := target, expiry := s.now + (s.chan c).config.answerWindow } } } := by
  have hdel : g.causes.del .starved = g.causes := del_absent hstarved
  simp only [State.beatDone, hg, hbeats, if_true]
  rw [modGroup_eq _ hg, removeCause_setSlot, modGroup_setSlot]
  simp only [Group.advance, if_neg hpos, hdel, Causes.has, hstarved, Bool.or_false]
  set v := s.setSlot i
    { changed := (s.slot i).changed,
      body := .held { g with dropped := 0, position := (g.position + 1) % 3 } } with hv
  have hvg : v.group i = some { g with dropped := 0, position := (g.position + 1) % 3 } := group_setSlot_held ..
  have hclosed : v.closeMissed i = v := by simp [State.closeMissed, hvg, hwindow]
  have hrole' : ({ g with dropped := 0, position := (g.position + 1) % 3 } : Machine.Group).roleOf target
      = g.roleOf target := rfl
  rw [hclosed]
  simp only [State.openWindow, hvg, hbeats, hrole', hrole, and_self, if_true]
  rw [modGroup_eq _ hvg, hv]
  simp

/-- Settles O40: a BEAT and a HALT are reported alike. -/
theorem beatSent : Obligations.BeatSent := by
  intro t c p i g target pos k s hk hflight hg hstate hwindow hstarved hrole hpos
  have hbeats : g.state.beats = true := by rcases hstate with h | h | h <;> rw [h] <;> rfl
  have hexec : exec (.txDone t c) s = .next ((s.tick t).report c true).finish := rfl
  rw [hexec, report_eq (s := s.tick t) true hflight,
    outcome_group (p := p) (i := i) true rfl rfl rfl, if_pos rfl]
  have hdone : ∀ v : State, v.groupDone c i
      { source := .phase p, kind := k, owner := some i, awaited := true, address := .group g.call, call := g.call,
        content := if k = .beat then .beat target pos else .halt target pos g.causes }
      = v.beatDone c i target pos := by
    intro v
    rcases hk with rfl | rfl <;> rfl
  rw [hdone, beatDone_eq (by simpa using hg) hbeats hwindow hstarved hrole hpos]
  simp [landed]

/-- Settles O41: the refused RELAY is the order in flight's, so it is raised again. -/
theorem relayRefused : Obligations.RelayRefused := by
  intro t c p i g o s hflight hg hc hp ho hpending
  subst hc hp
  have hexec : exec (.txRefused t g.channel) s = .next ((s.tick t).report g.channel false).finish := rfl
  rw [hexec, report_eq (s := s.tick t) false hflight,
    outcome_group (p := g.phase) (i := i) false rfl rfl rfl, if_neg (by simp)]
  set v := (s.tick t).setChan g.channel (landed ((s.tick t).chan g.channel) (s.tick t).now) with hv
  have hvg : v.group i = some g := hg
  have hvp : v.isPending g.channel (.phase g.phase) .relay = false := by
    rw [isPending_eq] at hpending ⊢
    simpa [hv, landed] using hpending
  simp only [State.groupRefused, State.relayReport, hvg, State.relayAwaited, ho, hvp]
  simp [hv, raise_setChan, landed]

end Sys2Proof.FrameProofs
end

section
/-!
The talk floor (R138 to R147): the end of a grant as one of two changes of the channel, the second followed by the refresh of
the new holder's level.
-/
namespace Sys2Proof.FloorProofs
open Sys2Proof Sys2Proof.Machine Sys2Proof.Machine.Laws Sys2Proof.CommandProofs Sys2Proof.DeviceProofs Sys2Proof.PortProofs
  Sys2Proof.SlotProofs Sys2Proof.RecordProofs

/-! ### Eligibility looks at the slots alone -/

theorem memberPlace_congr {s u : State} (h : u.slots = s.slots) (r : Radio) : u.memberPlace r = s.memberPlace r := by
  simp only [State.memberPlace, group_congr h]

theorem talkEligible_congr {s u : State} (h : u.slots = s.slots) (c : Chan) (r : Radio) :
    u.talkEligible c r = s.talkEligible c r := by
  simp only [State.talkEligible, memberPlace_congr h, group_congr h]

@[simp] theorem memberPlace_setChan (s : State) (c : Chan) (v : Channel) (r : Radio) :
    (s.setChan c v).memberPlace r = s.memberPlace r := memberPlace_congr rfl r

@[simp] theorem talkEligible_setChan (s : State) (c d : Chan) (v : Channel) (r : Radio) :
    (s.setChan c v).talkEligible d r = s.talkEligible d r := talkEligible_congr rfl d r

/-- R144: what eligibility says of a radio's group. -/
theorem talkEligible_spec {s : State} {c : Chan} {r : Radio} (h : s.talkEligible c r = true) :
    ∃ i role g, s.memberPlace r = some (i, role) ∧ s.group i = some g ∧ g.roleOf r = some role ∧ g.channel = c
      ∧ (g.state = .active ∨ g.state = .degraded) ∧ g.move = none := by
  unfold State.talkEligible at h
  split at h
  · cases h
  · next i role hplace =>
    obtain ⟨g, hg, hrole⟩ := memberPlace_spec hplace
    simp only [hg, Bool.and_eq_true, Bool.or_eq_true, beq_iff_eq, Option.isNone_iff_eq_none] at h
    exact ⟨i, role, g, hplace, hg, hrole, h.1.1, h.1.2, h.2⟩

/-! ### Granting and passing -/

/-- R139: a channel whose floor is granted to `r` at `now`. -/
def granted (ch : Channel) (r : Radio) (now : Instant) : Channel :=
  { ch with
    talk := some { radio := r, expiry := now + 1000 * ch.config.talkWindow }
    reqs := reqsRaise { source := .channel, kind := .talkGrant, body := .plain } ch.reqs }

/-- R67, R139: a grant changes the channel and refreshes the new holder. -/
theorem grantFloor_eq {s : State} {c : Chan} {r : Radio} {i : SlotId} {role : Role}
    (h : s.memberPlace r = some (i, role)) :
    s.grantFloor c r = (s.setChan c (granted (s.chan c) r s.now)).refresh i r := by
  have hraise : (s.modChan c fun ch =>
      { ch with talk := some { radio := r, expiry := s.now + 1000 * ch.config.talkWindow } }).raise c .channel .talkGrant
        .plain = s.setChan c (granted (s.chan c) r s.now) := raise_setChan s c _ _ _ _
  simp only [State.grantFloor, hraise, h]

/-- R144: passing a queue whose radios are all ineligible leaves the floor free. -/
theorem passQueue_none {c : Chan} {s : State} {q : List Radio} (h : ∀ x ∈ q, s.talkEligible c x = false) :
    s.passQueue c q = (s.modChan c fun ch => { ch with talkQueue := [] }).voiceEnds c := by
  induction q with
  | nil => rfl
  | cons x q ih =>
    rw [State.passQueue, if_neg (by simp [h x]), ih fun y hy => h y (List.mem_cons_of_mem _ hy)]

/-- R144: passing a queue grants the floor to its first eligible radio. -/
theorem passQueue_first {c : Chan} {s : State} {q₁ q₂ : List Radio} {x : Radio}
    (h : ∀ y ∈ q₁, s.talkEligible c y = false) (hx : s.talkEligible c x = true) :
    s.passQueue c (q₁ ++ x :: q₂) = (s.modChan c fun ch => { ch with talkQueue := q₂ }).grantFloor c x := by
  induction q₁ with
  | nil => rw [List.nil_append, State.passQueue, if_pos hx]
  | cons y q ih =>
    rw [List.cons_append, State.passQueue, if_neg (by simp [h y]), ih fun z hz => h z (List.mem_cons_of_mem _ hz)]

/-- R144, steps 1 and 2, R145: a channel whose holder `r` has left the floor. -/
def vacated (ch : Channel) (r : Radio) : Channel :=
  { ch with
    talk := none
    reqs := reqsRaise { source := .channel, kind := .talkClose, body := .closing r }
      (reqsWithdraw .channel .talkGrant ch.reqs) }

theorem clearHolder_eq {s : State} {c : Chan} {h : FloorHolder} (hh : (s.chan c).talk = some h) :
    s.clearHolder c = s.setChan c (vacated (s.chan c) h.radio) := by
  simp only [State.clearHolder, hh]
  rw [State.modChan, withdraw_setChan, raise_setChan]
  rfl

theorem clearHolder_free {s : State} {c : Chan} (h : (s.chan c).talk = none) : s.clearHolder c = s := by
  simp [State.clearHolder, h]

theorem endGrant_free {s : State} {c : Chan} (h : (s.chan c).talk = none) : s.endGrant c = s := by
  simp [State.endGrant, h]

theorem endGrant_eq {s : State} {c : Chan} {h : FloorHolder} (hh : (s.chan c).talk = some h) :
    s.endGrant c = (s.setChan c (vacated (s.chan c) h.radio)).passQueue c (s.chan c).talkQueue := by
  simp only [State.endGrant, hh, State.passFloor]
  rw [clearHolder_eq hh]
  simp [vacated]

/-- R144: a grant ends and no queued radio is eligible: the floor is free. -/
theorem endGrant_freed {s : State} {c : Chan} {h : FloorHolder} (hh : (s.chan c).talk = some h)
    (hq : ∀ x ∈ (s.chan c).talkQueue, s.talkEligible c x = false) :
    s.endGrant c = s.setChan c ((s.chan c).freed h.radio s.now) := by
  rw [endGrant_eq hh, passQueue_none (by simpa using hq), modChan_setChan, State.voiceEnds, modChan_setChan]
  congr 1
  unfold vacated Channel.freed
  cases hf : (s.chan c).inFlight <;> simp

/-- R144: a grant ends and the floor passes to the first eligible radio of the queue. -/
theorem endGrant_passed {s : State} {c : Chan} {h : FloorHolder} {q₁ q₂ : List Radio} {x : Radio} {j : SlotId}
    {role : Role} (hh : (s.chan c).talk = some h) (hq : (s.chan c).talkQueue = q₁ ++ x :: q₂)
    (hbefore : ∀ y ∈ q₁, s.talkEligible c y = false) (hx : s.talkEligible c x = true)
    (hplace : s.memberPlace x = some (j, role)) :
    s.endGrant c = (s.setChan c ((s.chan c).passed h.radio x q₂ s.now)).refresh j x := by
  rw [endGrant_eq hh, hq, passQueue_first (by simpa using hbefore) (by simpa using hx), modChan_setChan,
    grantFloor_eq (by simpa using hplace)]
  simp [granted, vacated, Channel.passed]

/-- R144: a queue holds no eligible radio, or a first one. -/
theorem first_or_none (p : Radio → Bool) (q : List Radio) :
    (∀ x ∈ q, p x = false) ∨ ∃ q₁ x q₂, q = q₁ ++ x :: q₂ ∧ (∀ y ∈ q₁, p y = false) ∧ p x = true := by
  induction q with
  | nil => exact .inl (by simp)
  | cons x q ih =>
    cases hx : p x with
    | true => exact .inr ⟨[], x, q, rfl, by simp, hx⟩
    | false =>
      rcases ih with hnone | ⟨q₁, y, q₂, rfl, hbefore, hy⟩
      · exact .inl (by simpa [hx] using hnone)
      · exact .inr ⟨x :: q₁, y, q₂, rfl, by simpa [hx] using hbefore, hy⟩

/-- R144: what the end of a grant can do. -/
theorem endGrant_cases (s : State) (c : Chan) :
    ((s.chan c).talk = none ∧ s.endGrant c = s)
      ∨ (∃ h, (s.chan c).talk = some h ∧ s.endGrant c = s.setChan c ((s.chan c).freed h.radio s.now))
      ∨ ∃ h q₁ x q₂ j role g, (s.chan c).talk = some h ∧ (s.chan c).talkQueue = q₁ ++ x :: q₂
          ∧ s.memberPlace x = some (j, role) ∧ s.group j = some g ∧ g.roleOf x = some role ∧ g.channel = c
          ∧ (g.state = .active ∨ g.state = .degraded) ∧ g.move = none
          ∧ s.endGrant c = (s.setChan c ((s.chan c).passed h.radio x q₂ s.now)).refresh j x := by
  cases hh : (s.chan c).talk with
  | none => exact .inl ⟨rfl, endGrant_free hh⟩
  | some h =>
    rcases first_or_none (s.talkEligible c) (s.chan c).talkQueue with hnone | ⟨q₁, x, q₂, hq, hbefore, hx⟩
    · exact .inr (.inl ⟨h, rfl, endGrant_freed hh hnone⟩)
    · obtain ⟨j, role, g, hplace, hg, hrole, hc, hstate, hmove⟩ := talkEligible_spec hx
      exact .inr (.inr ⟨h, q₁, x, q₂, j, role, g, rfl, hq, hplace, hg, hrole, hc, hstate, hmove,
        endGrant_passed hh hq hbefore hx hplace⟩)

/-! ### A floor that no concerned radio holds -/

theorem holdsFloor_iff {s : State} {c : Chan} {r : Radio} :
    s.holdsFloor c r = true ↔ ∃ h, (s.chan c).talk = some h ∧ h.radio = r := by
  unfold State.holdsFloor
  cases (s.chan c).talk <;> simp

theorem foldl_self {α : Type} {f : State → α → State} {s : State} {l : List α} (h : ∀ a ∈ l, f s a = s) :
    l.foldl f s = s := by
  induction l with
  | nil => rfl
  | cons a l ih => rw [List.foldl_cons, h a (by simp), ih fun b hb => h b (List.mem_cons_of_mem _ hb)]

/-- R146: with no floor held by a radio there is none to withdraw. -/
theorem withdrawFrom_self {s : State} {r : Radio} (h : ∀ c f, (s.chan c).talk = some f → f.radio ≠ r) :
    s.withdrawFrom r = s := by
  refine foldl_self fun c _ => if_neg fun hc => ?_
  obtain ⟨f, hf, hr⟩ := holdsFloor_iff.mp hc
  exact h c f hf hr

theorem withdrawGroup_self {s : State} {cs : List Chan} {rs : List Radio}
    (h : ∀ c ∈ cs, ∀ f, (s.chan c).talk = some f → f.radio ∉ rs) : s.withdrawGroup cs rs = s := by
  refine foldl_self fun c hc => if_neg fun hany => ?_
  obtain ⟨r, hr, hholds⟩ := List.any_eq_true.mp hany
  obtain ⟨f, hf, rfl⟩ := holdsFloor_iff.mp hholds
  exact h c hc f hf hr

/-! ### TALK-REQ -/

/-- R16: a role in a group places a radio in it where no lower slot has the radio: presence moves no radio. -/
theorem judged_radios (warn : Nat) (g : Machine.Group) :
    (judged warn g).loco.radio = g.loco.radio ∧ (judged warn g).leader.radio = g.leader.radio
      ∧ (judged warn g).crew = g.crew := by
  unfold judged
  split
  · exact ⟨rfl, rfl, rfl⟩
  · split <;> exact ⟨rfl, rfl, rfl⟩

theorem roleOf_eq_of {g g' : Machine.Group} (hloco : g'.loco.radio = g.loco.radio)
    (hleader : g'.leader.radio = g.leader.radio) (hcrew : g'.crew.map (·.radio) = g.crew.map (·.radio)) (r : Radio) :
    g'.roleOf r = g.roleOf r := by
  have hany : ∀ x : Machine.Group, x.crew.any (fun m => m.radio == r) = (x.crew.map (·.radio)).any (· == r) := by
    simp [Function.comp_def]
  unfold Group.roleOf
  rw [hloco, hleader, hany g', hany g, hcrew]

theorem setLevel_radios (g : Machine.Group) (r : Radio) (n : Nat) (role : Role) :
    (g.setLevel r n role).loco.radio = g.loco.radio ∧ (g.setLevel r n role).leader.radio = g.leader.radio
      ∧ (g.setLevel r n role).crew.map (·.radio) = g.crew.map (·.radio) := by
  cases role with
  | crew =>
    refine ⟨rfl, rfl, ?_⟩
    simp only [Group.setLevel, List.map_map]
    refine List.map_congr_left fun m _ => ?_
    simp only [Function.comp_apply]
    split <;> rfl
  | _ => exact ⟨rfl, rfl, rfl⟩

theorem leveled_radios (g : Machine.Group) (r : Radio) (role : Role) :
    (leveled g r role).loco.radio = g.loco.radio ∧ (leveled g r role).leader.radio = g.leader.radio
      ∧ (leveled g r role).crew.map (·.radio) = g.crew.map (·.radio) := by
  have h := setLevel_radios g r 7 role
  unfold leveled
  split <;> exact h

/-- R67: a refresh moves no radio. -/
theorem refreshed_radios (warn : Nat) (g : Machine.Group) (r : Radio) (role : Role) :
    (refreshed warn g r role).loco.radio = g.loco.radio ∧ (refreshed warn g r role).leader.radio = g.leader.radio
      ∧ (refreshed warn g r role).crew.map (·.radio) = g.crew.map (·.radio) := by
  obtain ⟨hl, hd, hc⟩ := judged_radios warn (leveled g r role)
  obtain ⟨hl', hd', hc'⟩ := leveled_radios g r role
  exact ⟨hl.trans hl', hd.trans hd', (congrArg _ hc).trans hc'⟩

@[simp] theorem refreshed_roleOf (warn : Nat) (g : Machine.Group) (r x : Radio) (role : Role) :
    (refreshed warn g r role).roleOf x = g.roleOf x := by
  obtain ⟨hl, hd, hc⟩ := refreshed_radios warn g r role
  exact roleOf_eq_of hl hd hc x

/-- R67, R71, R72, R78: the fields of a record that a refresh can change. -/
theorem refreshed_shape (warn : Nat) (g : Machine.Group) (r : Radio) (role : Role) :
    ∃ st l m ms cs ns, refreshed warn g r role = { g with
      state := st, loco := { g.loco with level := l }, leader := { g.leader with level := m }, crew := ms, causes := cs,
      notices := ns } := by
  have hlevel : ∃ l m ms cs, leveled g r role = { g with
      loco := { g.loco with level := l }, leader := { g.leader with level := m }, crew := ms, causes := cs } := by
    cases role <;> exact ⟨_, _, _, _, rfl⟩
  obtain ⟨l, m, ms, cs, hl⟩ := hlevel
  unfold refreshed judged
  rw [hl]
  split
  · exact ⟨_, l, m, ms, cs, _, rfl⟩
  · split <;> exact ⟨_, l, m, ms, cs, _, rfl⟩

@[simp] theorem refreshed_channel (warn : Nat) (g : Machine.Group) (r : Radio) (role : Role) :
    (refreshed warn g r role).channel = g.channel := by
  obtain ⟨_, _, _, _, _, _, h⟩ := refreshed_shape warn g r role
  rw [h]

@[simp] theorem answered_channel (g : Machine.Group) (r : Radio) : (g.answered r).channel = g.channel := by
  rw [answered_eq]

/-- Writes of slots that keep every radio's role keep every place. -/
theorem memberPlace_of_roles {s u : State} (r : Radio)
    (h : ∀ i, (u.group i).bind (fun g => g.roleOf r) = (s.group i).bind (fun g => g.roleOf r)) :
    u.memberPlace r = s.memberPlace r := by
  have hbody : ∀ v : State, ∀ i, ((v.group i).bind fun g => (g.roleOf r).map fun role => (i, role))
      = ((v.group i).bind fun g => g.roleOf r).map fun role => (i, role) := by
    intro v i
    cases v.group i <;> rfl
  unfold State.memberPlace
  simp only [hbody, h]

theorem memberPlace_presence (s : State) (i : SlotId) (r x : Radio) :
    (s.presence i r).memberPlace x = s.memberPlace x := by
  refine memberPlace_of_roles x fun j => ?_
  by_cases hj : j = i
  · subst hj
    cases hg : s.group j with
    | none => rw [State.presence, modGroup_free _ hg, refresh_free r hg, hg]
    | some g =>
      cases hr : g.roleOf r with
      | none =>
        have hstranger : (s.modGroup j fun g => g.answered r).group j = some (g.answered r) := by simp [hg]
        rw [State.presence, refresh_stranger hstranger (by rw [answered_roleOf]; exact hr), hstranger]
        simp
      | some role => rw [presence_eq hg hr, group_setSlot_held]; simp
  · rw [show (s.presence i r).group j = s.group j by
      rw [presence_eq_setSlot, group_setSlot_ne _ _ (Ne.symm hj)]]

theorem holdsFloor_presence (s : State) (i : SlotId) (r x : Radio) (c : Chan) :
    (s.presence i r).holdsFloor c x = s.holdsFloor c x := by simp [State.holdsFloor]

/-- R138: a TALK-REQ in ACTIVE or DEGRADED with no move record comes to the floor of the group's channel. -/
theorem talkReqAct_eq {s : State} {i : SlotId} {g : Machine.Group} {r : Radio} (hg : s.group i = some g)
    (hstate : g.state = .active ∨ g.state = .degraded) (hmove : g.move = none) :
    s.talkReqAct r i = s.talkTake i g.channel r := by
  unfold State.talkReqAct
  rw [hg]
  rcases hstate with h | h <;> simp [h, hmove]

/-- Settles O33: the three branches of a taken request, by who holds the floor. -/
theorem talkRequest : Obligations.TalkRequest := by
  intro t c f i role g g1 s h hg1 hstate hmove
  have hexec : exec (.talkReq t c f) s = .next (((s.tick t).presence i f.sender).talkReqAct f.sender i).finish :=
    exec_member_plain (k := .talkReq) t h (by simp) rfl (.inr rfl)
  rw [hexec, talkReqAct_eq hg1 hstate hmove]
  set v := (s.tick t).presence i f.sender with hv
  have hchan : ∀ d, v.chan d = s.chan d := fun d => by simp [hv]
  have hplace : v.memberPlace f.sender = some (i, role) := by
    rw [hv, memberPlace_presence]
    exact h.place
  refine ⟨fun hfree => ⟨_, rfl, ?_⟩, fun hd hheld => ⟨fun hself => ?_, fun hother hqueued hroom => ?_⟩⟩
  · have hgrant : v.talkTake i g1.channel f.sender
        = (v.setChan g1.channel (granted (v.chan g1.channel) f.sender v.now)).refresh i f.sender := by
      simp only [State.talkTake, hchan, hfree]
      rw [grantFloor_eq hplace, hchan]
    rw [hgrant, refresh_eq_setSlot]
    simp only [chan_setSlot, chan_setChan_self, granted, hchan, isPending_setSlot]
    refine ⟨by simp [hv], trivial, ?_, fun d hd => ?_, by simp [hv], by simp [hv]⟩
    · rw [isPending_eq, chan_setChan_self, reqsFind_raise_self]
      rfl
    · rw [chan_setChan_ne _ _ (Ne.symm hd), hchan]
  · simp only [State.talkTake, hchan, hheld, hself, if_true, State.modChan]
    simp [hv]
  · simp only [State.talkTake, hchan, hheld, if_neg hother, List.contains_eq_mem, decide_eq_true_eq, if_neg hqueued,
      if_pos hroom, State.modChan]

/-! ### The ends of a grant -/

theorem clearFloor_eq {s : State} {c : Chan} {h : FloorHolder} (hh : (s.chan c).talk = some h) :
    s.clearFloor c = s.setChan c ((s.chan c).freed h.radio s.now) := by
  simp only [State.clearFloor, hh]
  rw [clearHolder_eq hh, modChan_setChan, State.voiceEnds, modChan_setChan]
  congr 1
  unfold vacated Channel.freed
  cases hf : (s.chan c).inFlight <;> simp

/-- R143: the expiry of a grant that is due. -/
theorem exec_talkWindowExpiry {s : State} {t : Instant} {c : Chan} {h : FloorHolder} (hh : (s.chan c).talk = some h)
    (hdue : h.expiry ≤ max s.now t) : exec (.talkWindowExpiry t c) s = .next ((s.tick t).endGrant c).finish := by
  have hexec : exec (.talkWindowExpiry t c) s = .next ((s.tick t).talkExpiry c).finish := rfl
  rw [hexec, State.talkExpiry, if_pos (by simpa [hh] using hdue)]

/-- R142: a TALK-END from a member comes to the floor of its group's channel. -/
theorem exec_talkEnd {s : State} {t : Instant} {c : Chan} {f : UplinkFrame} {i : SlotId} {role : Role}
    {g : Machine.Group} (h : FromMember s c f i role g) :
    exec (.talkEnd t c f) s = .next (if s.holdsFloor g.channel f.sender
      then ((s.tick t).presence i f.sender).endGrant g.channel
      else ((s.tick t).presence i f.sender).setChan g.channel
        { s.chan g.channel with talkQueue := (s.chan g.channel).talkQueue.filter fun x => x != f.sender }).finish := by
  have hexec : exec (.talkEnd t c f) s = .next (((s.tick t).presence i f.sender).talkEndAct f.sender i).finish :=
    exec_member_plain (k := .talkEnd) t h (by simp) rfl (.inr rfl)
  rw [hexec]
  have hg1 : ((s.tick t).presence i f.sender).group i
      = some (refreshed s.device.warn (g.answered f.sender) f.sender role) := by
    rw [presence_eq (s := s.tick t) h.group (fromMember_role h), group_setSlot_held]
    rfl
  simp only [State.talkEndAct, hg1, holdsFloor_presence, refreshed_channel, answered_channel,
    State.modChan, chan_presence, chan_tick]
  rfl

/-- Settles O34: each end is the end of the holder's grant, or the queue's filter, on a channel named by the frame. -/
theorem grantEnds : Obligations.GrantEnds := by
  refine ⟨fun t c f i role g h s hm hh hr hq => ?_, fun t c f i role g s hm hno => ?_,
    fun t c h s hh hdue hq => ?_, fun t c h q₁ x q₂ j role s hh hdue hq hbefore hx hplace => ?_,
    fun t n c h s hn hstore hmode hh => ?_⟩
  · rw [exec_talkEnd hm, if_pos (holdsFloor_iff.mpr ⟨h, hh, hr⟩), endGrant_freed (h := h) (by simpa using hh) (by simp [hq])]
    simp
  · rw [exec_talkEnd hm, if_neg]
    exact fun hholds => by
      obtain ⟨h, hh, hr⟩ := holdsFloor_iff.mp hholds
      exact hno h hh hr
  · rw [exec_talkWindowExpiry hh hdue, endGrant_freed (s := s.tick t) hh hq]
    rfl
  · rw [exec_talkWindowExpiry hh hdue, endGrant_passed (s := s.tick t) hh hq hbefore hx hplace]
    rfl
  · have hbody : (s.begun t n).floorClearBody c.val = .taken ((s.begun t n).clearFloor c) false fun _ => .none := by
      simp [State.floorClearBody, chanOf]
    rw [exec_taken (i := .floorClear t n c.val) rfl hn hstore (judge_notInFallback hmode)]
    simp only [portBody, hbody, Verdict.apply]
    rw [clearFloor_eq (h := h) (by simpa using hh)]
    simp

end Sys2Proof.FloorProofs
end

section
/-!
The entry into HALT (R81, R82): what it writes in the group's own slot, whatever talk floors pass meanwhile, and what is
pending at the group's source after it. The causes that lead to it by an overspeed, a timeout and a lost release follow.
-/
namespace Sys2Proof.HaltProofs
open Sys2Proof Sys2Proof.Machine Sys2Proof.Machine.Laws Sys2Proof.CommandProofs Sys2Proof.DeviceProofs
  Sys2Proof.SlotProofs Sys2Proof.RecordProofs Sys2Proof.FloorProofs

/-! ### Floors that pass leave a group out of service alone -/

/-- R144: whether a group's members may take a floor by the group's state. -/
def InService (g : Machine.Group) : Prop := g.state = .active ∨ g.state = .degraded

theorem slot_eq {s : State} {i : SlotId} {g : Machine.Group} (h : s.group i = some g) :
    s.slot i = { changed := (s.slot i).changed, body := .held g } := by
  rw [← group_eq_some h]

theorem slot_refresh_ne (s : State) {i j : SlotId} (r : Radio) (h : j ≠ i) : (s.refresh j r).slot i = s.slot i := by
  rw [refresh_eq_setSlot, slot_setSlot_ne _ _ h]

/-- R144: a floor passes to no member of a group that is out of service. -/
theorem slot_endGrant {s : State} {i : SlotId} {g : Machine.Group} (c : Chan) (hg : s.group i = some g)
    (hout : ¬ InService g) : (s.endGrant c).slot i = s.slot i := by
  rcases endGrant_cases s c with ⟨-, he⟩ | ⟨h, -, he⟩ | ⟨h, q₁, x, q₂, j, role, g', -, -, -, hg', -, -, hstate, -, he⟩
  · rw [he]
  · rw [he, slot_setChan]
  · have hj : j ≠ i := by
      rintro rfl
      rw [hg] at hg'
      exact hout (Option.some.inj hg' ▸ hstate)
    rw [he, slot_refresh_ne _ _ hj, slot_setChan]

/-- R144, R145: the end of a grant leaves what is pending at the phases' sources. -/
theorem reqsFind_endGrant (s : State) (c d : Chan) (p : Phase) (k : ReqKind) :
    reqsFind (.phase p) k ((s.endGrant c).chan d).reqs = reqsFind (.phase p) k (s.chan d).reqs := by
  have hfreed : ∀ (ch : Channel) r, reqsFind (.phase p) k (reqsRaise
      { source := .channel, kind := .talkClose, body := .closing r } (reqsWithdraw .channel .talkGrant ch.reqs))
      = reqsFind (.phase p) k ch.reqs := fun ch r => by
    rw [reqsFind_raise_ne _ (by simp), reqsFind_withdraw_ne _ (by simp)]
  rcases endGrant_cases s c with ⟨-, he⟩ | ⟨h, -, he⟩ | ⟨h, q₁, x, q₂, j, role, g, -, -, -, -, -, -, -, -, he⟩
  · rw [he]
  · rw [he, chan_setChan]
    split
    · next hcd => subst hcd; exact hfreed _ _
    · rfl
  · rw [he, refresh_eq_setSlot, chan_setSlot, chan_setChan]
    split
    · next hcd =>
      subst hcd
      rw [Channel.passed, reqsFind_raise_ne _ (by simp)]
      exact hfreed _ _
    · rfl

/-- A property that each end of a grant keeps is kept by a withdrawal of floors. -/
theorem withdrawGroup_keeps {P : State → Prop} (h : ∀ s c, P s → P (s.endGrant c)) (cs : List Chan) (rs : List Radio)
    {s : State} (hs : P s) : P (s.withdrawGroup cs rs) := by
  unfold State.withdrawGroup
  induction cs generalizing s with
  | nil => exact hs
  | cons c cs ih =>
    refine ih ?_
    dsimp only
    split
    · exact h s c hs
    · exact hs

theorem slot_withdrawGroup {s : State} {i : SlotId} {g : Machine.Group} (cs : List Chan) (rs : List Radio)
    (hg : s.group i = some g) (hout : ¬ InService g) : (s.withdrawGroup cs rs).slot i = s.slot i := by
  refine withdrawGroup_keeps (P := fun u => u.slot i = s.slot i) (fun u c hu => ?_) cs rs rfl
  have hug : u.group i = some g := by rw [State.group, hu]; exact hg
  rw [slot_endGrant c hug hout, hu]

/-! ### What an entry discards -/

theorem dropOrder_none {s : State} {i : SlotId} {g : Machine.Group} (hg : s.group i = some g) (ho : g.order = none) :
    s.dropOrder i = s := by simp only [State.dropOrder, hg, ho]

theorem dropOrder_eq {s : State} {i : SlotId} {g : Machine.Group} {o : OrderInFlight} (hg : s.group i = some g)
    (ho : g.order = some o) :
    s.dropOrder i = ((s.modGroup i fun g => { g with order := none }).withdraw g.channel (.phase g.phase) .relay).orphan i
      Frame.isRelay := by
  simp only [State.dropOrder, hg, ho]

theorem slot_dropOrder {s : State} {i : SlotId} {g : Machine.Group} (hg : s.group i = some g) :
    (s.dropOrder i).slot i = { changed := (s.slot i).changed, body := .held { g with order := none } } := by
  cases ho : g.order with
  | none => rw [dropOrder_none hg ho, ← ho]; exact slot_eq hg
  | some o => rw [dropOrder_eq hg ho, modGroup_eq _ hg]; simp

theorem slot_dropOrder_ne (s : State) {i j : SlotId} (h : j ≠ i) : (s.dropOrder i).slot j = s.slot j := by
  unfold State.dropOrder
  split
  · rfl
  · split
    · rfl
    · simp [slot_modGroup_ne _ _ (Ne.symm h)]

/-- R81, R114: a record whose order in flight is gone, NOT TAKEN being sent. -/
def disordered (g : Machine.Group) : Machine.Group :=
  match g.order with
  | none => g
  | some o => noticed { g with order := none } (.notTaken o.order.seq) .leader

theorem slot_discardOrder {s : State} {i : SlotId} {g : Machine.Group} (hg : s.group i = some g) :
    (s.discardOrder i).slot i = { changed := (s.slot i).changed, body := .held (disordered g) } := by
  cases ho : g.order with
  | none =>
    simp only [State.discardOrder, disordered, hg, ho]
    exact slot_eq hg
  | some o =>
    have hdrop := slot_dropOrder hg
    simp only [State.discardOrder, disordered, hg, ho]
    rw [toLeader_eq _ (group_of_body (by rw [hdrop])), slot_setSlot_self, hdrop]

theorem dropApproach_none {s : State} {i : SlotId} {g : Machine.Group} (hg : s.group i = some g)
    (ha : g.approach = none) : s.dropApproach i = s := by simp only [State.dropApproach, hg, ha]

theorem dropApproach_eq {s : State} {i : SlotId} {g : Machine.Group} {a : Approach} (hg : s.group i = some g)
    (ha : g.approach = some a) :
    s.dropApproach i = ((s.modGroup i fun g => { g with approach := none }).withdraw g.channel (.phase g.phase)
      .ease).orphan i Frame.isEase := by
  simp only [State.dropApproach, hg, ha]

theorem slot_dropApproach {s : State} {i : SlotId} {g : Machine.Group} (hg : s.group i = some g) :
    (s.dropApproach i).slot i = { changed := (s.slot i).changed, body := .held { g with approach := none } } := by
  cases ha : g.approach with
  | none => rw [dropApproach_none hg ha, ← ha]; exact slot_eq hg
  | some a => rw [dropApproach_eq hg ha, modGroup_eq _ hg]; simp

theorem slot_dropApproach_ne (s : State) {i j : SlotId} (h : j ≠ i) : (s.dropApproach i).slot j = s.slot j := by
  unfold State.dropApproach
  split
  · rfl
  · split
    · rfl
    · simp [slot_modGroup_ne _ _ (Ne.symm h)]

@[simp] theorem unpin_slots (s : State) (r : Radio) : (s.unpin r).slots = s.slots := by
  unfold State.unpin
  repeat' split
  all_goals rfl

@[simp] theorem noticeToEntry_slots (s : State) (r : Radio) (n : Notice) (k : Nat) :
    (s.noticeToEntry r n k).slots = s.slots := by
  unfold State.noticeToEntry
  split <;> simp

@[simp] theorem slot_unpin (s : State) (r : Radio) (i : SlotId) : (s.unpin r).slot i = s.slot i :=
  slot_congr (unpin_slots s r) i

@[simp] theorem slot_noticeToEntry (s : State) (r : Radio) (n : Notice) (k : Nat) (i : SlotId) :
    (s.noticeToEntry r n k).slot i = s.slot i := slot_congr (noticeToEntry_slots s r n k) i

theorem cancelJoin_none {s : State} {i : SlotId} {g : Machine.Group} (b : Bool) (hg : s.group i = some g)
    (hj : g.join = none) : s.cancelJoin i b = s := by simp only [State.cancelJoin, hg, hj]

/-- R8, R36, R37: a pending join ends: the handset is told and its entry is unpinned. -/
def endJoin (s : State) (i : SlotId) (j : PendingJoin) (n : Notice) (call : Nat) : State :=
  (((s.modGroup i fun g => { g with join := none }).noticeToEntry j.radio n call).unpin j.radio).mark i

theorem cancelJoin_eq {s : State} {i : SlotId} {g : Machine.Group} {j : PendingJoin} (b : Bool)
    (hg : s.group i = some g) (hj : g.join = some j) : s.cancelJoin i b = endJoin s i j (.refused b) g.call := by
  simp only [State.cancelJoin, hg, hj]
  rfl

theorem slot_endJoin {s : State} {i : SlotId} {g : Machine.Group} (j : PendingJoin) (n : Notice) (call : Nat)
    (hg : s.group i = some g) :
    (endJoin s i j n call).slot i = { changed := true, body := .held { g with join := none } } := by
  simp [endJoin, modGroup_eq _ hg, State.mark]

theorem slot_cancelJoin {s : State} {i : SlotId} {g : Machine.Group} (b : Bool) (hg : s.group i = some g) :
    (s.cancelJoin i b).slot i
      = { changed := (s.slot i).changed || g.join.isSome, body := .held { g with join := none } } := by
  cases hj : g.join with
  | none =>
    rw [cancelJoin_none b hg hj, Option.isSome_none, Bool.or_false, ← hj]
    exact slot_eq hg
  | some j =>
    rw [cancelJoin_eq b hg hj, slot_endJoin j _ _ hg]
    simp

theorem slot_cancelJoin_ne (s : State) {i j : SlotId} (b : Bool) (h : j ≠ i) :
    (s.cancelJoin i b).slot j = s.slot j := by
  unfold State.cancelJoin
  split
  · rfl
  · split
    · rfl
    · simp [slot_mark_ne _ (Ne.symm h), slot_modGroup_ne _ _ (Ne.symm h)]

@[simp] theorem oldChannelHalt_slots (s : State) (i : SlotId) : (s.oldChannelHalt i).slots = s.slots := by
  unfold State.oldChannelHalt
  repeat' split
  all_goals rfl

@[simp] theorem haltBeat_slots (s : State) (i : SlotId) : (s.haltBeat i).slots = s.slots := by
  unfold State.haltBeat
  split
  · rfl
  · simp

@[simp] theorem slot_haltBeat (s : State) (i j : SlotId) : (s.haltBeat i).slot j = s.slot j :=
  slot_congr (haltBeat_slots s i) j

/-! ### The entry -/

/-- R81: a record after steps 1 to 5 of the entry into HALT. -/
def halting (g : Machine.Group) : Machine.Group :=
  { disordered { g with state := .halt } with approach := none, join := none }

theorem disordered_shape (g : Machine.Group) : ∃ ns, disordered g = { g with order := none, notices := ns } := by
  cases ho : g.order with
  | none =>
    refine ⟨g.notices, ?_⟩
    simp only [disordered, ho]
    rw [← ho]
  | some o => exact ⟨_, by rw [disordered, ho]; rfl⟩

theorem halting_shape (g : Machine.Group) :
    ∃ ns, halting g = { g with state := .halt, order := none, approach := none, join := none, notices := ns } := by
  obtain ⟨ns, hns⟩ := disordered_shape { g with state := .halt }
  exact ⟨ns, by rw [halting, hns]⟩

/-- The state between the withdrawal of the floors and the HALT request. -/
def grounded (s : State) (i : SlotId) (rs : List Radio) : State :=
  ((((((s.modGroup i fun g => { g with state := .halt }).mark i).discardOrder i).dropApproach i).cancelJoin i true)).withdrawGroup
    (channels.filter fun c => s.holdsPhaseOn c i) rs

theorem enterHalt_eq {s : State} {i : SlotId} {g : Machine.Group} (hg : s.group i = some g) :
    s.enterHalt i = ((grounded s i g.radios).haltBeat i).toLeader i (.halted g.causes) := by
  simp only [State.enterHalt, hg]
  rfl

theorem slot_grounded {s : State} {i : SlotId} {g : Machine.Group} (rs : List Radio) (hg : s.group i = some g) :
    (grounded s i rs).slot i = { changed := true, body := .held (halting g) } := by
  have h0 : ((s.modGroup i fun g => { g with state := .halt }).mark i).slot i
      = { changed := true, body := .held { g with state := .halt } } := by
    rw [modGroup_eq _ hg, mark_setSlot, slot_setSlot_self]
  have h1 := slot_discardOrder (group_of_body (by rw [h0]))
  have h2 := slot_dropApproach (group_of_body (by rw [h1]))
  have h3 := slot_cancelJoin true (group_of_body (by rw [h2]))
  have hout : ¬ InService { { disordered { g with state := .halt } with approach := none } with join := none } := by
    obtain ⟨ns, hns⟩ := disordered_shape { g with state := .halt }
    rw [hns]
    simp [InService]
  unfold grounded
  rw [slot_withdrawGroup _ _ (group_of_body (by rw [h3])) hout, h3, h2, h1, h0]
  rfl

/-- R81: the group's own slot after the entry into HALT. -/
theorem slot_enterHalt {s : State} {i : SlotId} {g : Machine.Group} (hg : s.group i = some g) :
    (s.enterHalt i).slot i
      = { changed := true, body := .held (noticed (halting g) (.halted g.causes) .leader) } := by
  have hgrounded := slot_grounded g.radios hg
  have hbeat : ((grounded s i g.radios).haltBeat i).slot i = { changed := true, body := .held (halting g) } := by
    rw [slot_haltBeat, hgrounded]
  rw [enterHalt_eq hg, toLeader_eq _ (group_of_body (by rw [hbeat])), slot_setSlot_self, hbeat]

/-- R155: an old-channel HALT takes nothing out of a set. -/
theorem isPending_oldChannelHalt_halt {s : State} {i : SlotId} {c : Chan} {p : Phase}
    (h : s.isPending c (.phase p) .halt = true) : (s.oldChannelHalt i).isPending c (.phase p) .halt = true := by
  unfold State.oldChannelHalt
  split
  · exact h
  · split
    · exact h
    · next m _ =>
      by_cases heq : m.oldChan = c ∧ Source.phase m.oldPhase = .phase p ∧ ReqKind.halt = .halt
      · obtain ⟨rfl, hp, -⟩ := heq
        rw [← hp]
        exact isPending_raise_self ..
      · rw [isPending_raise_ne _ _ heq, h]

theorem isPending_oldChannelHalt_ne (s : State) (i : SlotId) (c : Chan) (src : Source) {k : ReqKind} (hk : k ≠ .halt) :
    (s.oldChannelHalt i).isPending c src k = s.isPending c src k := by
  unfold State.oldChannelHalt
  split
  · rfl
  · split
    · rfl
    · exact isPending_raise_ne _ _ fun h => hk h.2.2.symm

/-- R82: after the entry the group's beat is a HALT request. -/
theorem isPending_haltBeat {s : State} {i : SlotId} {g : Machine.Group} (hg : s.group i = some g) :
    (s.haltBeat i).isPending g.channel (.phase g.phase) .halt = true
      ∧ (s.haltBeat i).isPending g.channel (.phase g.phase) .beat = false := by
  simp only [State.haltBeat, hg]
  refine ⟨isPending_oldChannelHalt_halt (isPending_raise_self ..), ?_⟩
  rw [isPending_oldChannelHalt_ne _ _ _ _ (by simp), isPending_raise_ne _ _ (by simp), isPending_withdraw_self]

theorem pushNotice_getLast {α : Type} (q : List α) (x : α) : (pushNotice q x).getLast? = some x := by
  have hlen : q.length + 1 - 4 ≤ q.length := by omega
  rw [pushNotice, List.drop_append_of_le_length hlen]
  simp

/-- R81, R82: an entry into HALT leaves the group as `Halted` says. -/
theorem halted_enterHalt {s : State} {i : SlotId} {g : Machine.Group} (hg : s.group i = some g) :
    Halted (s.enterHalt i) i g.causes := by
  have hslot := slot_enterHalt hg
  obtain ⟨ns, hns⟩ := halting_shape g
  have hbeat := isPending_haltBeat (s := grounded s i g.radios) (i := i) (g := halting g)
    (group_of_body (by rw [slot_grounded g.radios hg]))
  refine ⟨⟨noticed (halting g) (.halted g.causes) .leader, group_of_body (by rw [hslot]), ?_, ?_, ?_, ?_, ?_, ?_, ?_, ?_⟩,
    by rw [hslot]⟩
  · rw [hns]; rfl
  · rw [hns]; rfl
  · rw [hns]; rfl
  · rw [hns]; rfl
  · rw [hns]; rfl
  · exact pushNotice_getLast _ _
  · rw [enterHalt_eq hg, isPending_toLeader]
    exact hbeat.1
  · rw [enterHalt_eq hg, isPending_toLeader]
    exact hbeat.2

/-! ### Causes that lead to it -/

theorem entersHalt_of_inService {g : Machine.Group} (h : InService g) : g.state.entersHalt = true := by
  rcases h with h | h <;> rw [h] <;> rfl

theorem empty_union (cs : Causes) : Causes.union {} cs = cs := by
  simp [Causes.union]

theorem single_ne_empty (c : Cause) : Causes.single c ≠ {} := by
  cases c <;> decide

/-- R76: causes that are not all present, added in a state from which HALT is entered. -/
theorem addCauses_enters {s : State} {i : SlotId} {g : Machine.Group} {cs : Causes} (hg : s.group i = some g)
    (hnew : g.causes.union cs ≠ g.causes) (hstate : g.state.entersHalt = true) :
    s.addCauses i cs
      = ((s.setSlot i { changed := true, body := .held { g with causes := g.causes.union cs } }).enterHalt i) := by
  simp only [State.addCauses, hg, if_neg hnew, hstate, if_true]
  rw [modGroup_eq _ hg, mark_setSlot]

/-- R76, R81: the first cause of a group in service. -/
theorem addCause_first {s : State} {i : SlotId} {g : Machine.Group} {c : Cause} (hg : s.group i = some g)
    (hstate : g.state.entersHalt = true) (hcauses : g.causes = {}) :
    s.addCause i c
      = (s.setSlot i { changed := true, body := .held { g with causes := Causes.single c } }).enterHalt i := by
  have hunion : g.causes.union (Causes.single c) = Causes.single c := by rw [hcauses, empty_union]
  have hnew : g.causes.union (Causes.single c) ≠ g.causes := by
    rw [hunion, hcauses]
    exact single_ne_empty c
  rw [State.addCause, addCauses_enters hg hnew hstate, hunion]

theorem halted_addCause {s : State} {i : SlotId} {g : Machine.Group} {c : Cause} (hg : s.group i = some g)
    (hstate : g.state.entersHalt = true) (hcauses : g.causes = {}) : Halted (s.addCause i c) i (Causes.single c) := by
  rw [addCause_first hg hstate hcauses]
  exact halted_enterHalt (group_setSlot_held ..)

/-- R81: an entry keeps every field of the record but the ones it names. -/
theorem group_addCause_first {s : State} {i : SlotId} {g : Machine.Group} {c : Cause} (hg : s.group i = some g)
    (hstate : g.state.entersHalt = true) (hcauses : g.causes = {}) :
    ∃ ns, (s.addCause i c).group i = some { g with
      causes := Causes.single c, state := .halt, order := none, approach := none, join := none, notices := ns } := by
  obtain ⟨ns, hns⟩ := halting_shape { g with causes := Causes.single c }
  refine ⟨pushNotice ns { notice := .halted (Causes.single c), dest := .leader }, ?_⟩
  rw [addCause_first hg hstate hcauses]
  refine group_of_body ?_
  rw [slot_enterHalt (group_setSlot_held ..), hns]
  rfl

/-! ### Overspeed -/

theorem refreshed_inService {warn : Nat} {g : Machine.Group} (r : Radio) (role : Role) :
    InService (refreshed warn g r role) ↔ InService g := by
  have hlevel : (leveled g r role).state = g.state := by cases role <;> rfl
  unfold refreshed judged InService
  split
  · next h => simp [noticed, ← hlevel, h.1]
  · split
    · next h => simp [noticed, ← hlevel, h.1]
    · rw [hlevel]

@[simp] theorem del_empty (c : Cause) : Causes.del {} c = {} := by cases c <;> rfl

theorem judged_causes (warn : Nat) (g : Machine.Group) : (judged warn g).causes = g.causes := by
  unfold judged
  split
  · rfl
  · split <;> rfl

theorem refreshed_causes_empty {warn : Nat} {g : Machine.Group} (r : Radio) (role : Role) (h : g.causes = {}) :
    (refreshed warn g r role).causes = {} := by
  rw [refreshed, judged_causes]
  cases role <;> simp [leveled, Role.linkCause, h]

theorem inService_congr {g g' : Machine.Group} (h : g'.state = g.state) : InService g' ↔ InService g := by
  simp [InService, h]

/-- Settles O24: after presence and report the group is still in service with no cause, and the check adds OVERSPEED. -/
theorem overspeedHalts : Obligations.OverspeedHalts := by
  intro t c f i g ap s hsound h hap hexcess
  have hgsound := hsound i g h.group
  have hservice : InService g := hgsound.approach (by simp [hap])
  have hcauses : g.causes = {} := hgsound.causes (entersHalt_of_inService hservice)
  set r := refreshed s.device.warn (g.answered f.sender) f.sender .loco with hr
  set v := ((s.tick t).presence i f.sender).locoUpdate i f with hv
  have hvg : v.group i = some (if f.motion = 0 then { reported r f with causes := r.causes.del .overspeed }
      else reported r f) := by
    rw [hv, presence_eq (s := s.tick t) h.group (fromMember_role h), locoUpdate_setSlot, group_setSlot_held]
    rfl
  have hrcauses : r.causes = {} := refreshed_causes_empty _ _ (by simpa using hcauses)
  have hrservice : InService r := by
    rw [hr, refreshed_inService, answered_eq]
    exact hservice
  set g1 : Machine.Group := if f.motion = 0 then { reported r f with causes := r.causes.del .overspeed }
    else reported r f with hg1
  have hg1state : g1.state = r.state := by rw [hg1]; split <;> rfl
  have hg1causes : g1.causes = {} := by
    rw [hg1]
    split
    · simp [hrcauses]
    · exact hrcauses
  have hg1approach : g1.approach = some ap := by
    have : g1.approach = r.approach := by rw [hg1]; split <;> rfl
    rw [this, hr, refreshed_approach, answered_approach, hap]
  have hdevice : v.device = s.device := by
    have := device_of_host (locoUpdate_host ((s.tick t).presence i f.sender) i f)
    simpa [hv] using this
  have hexec : exec (.statusFrame t c f) s
      = .next (v.approachCheck i (speedOf f.speed) f.odometer (motionOf f.motion)).finish := by
    have := exec_member (k := .status) t h (by simp) rfl
    rw [takeKind_loco rfl] at this
    exact this
  have hg1service : InService g1 := (inService_congr hg1state).mpr hrservice
  have hcheck : v.approachCheck i (speedOf f.speed) f.odometer (motionOf f.motion) = v.addCause i .overspeed := by
    simp only [State.approachCheck, hvg, hg1approach, hdevice]
    rw [if_pos (show g1.state = .active ∨ g1.state = .degraded from hg1service), if_pos]
    exact hexcess
  refine ⟨_, hexec, ?_⟩
  rw [hcheck]
  exact halted_addCause hvg (entersHalt_of_inService hg1service) hg1causes

/-! ### Timeouts -/

theorem exec_orderTimeout {s : State} {t : Instant} {i : SlotId} {g : Machine.Group} {o : Order} {e : Instant}
    (hg : s.group i = some g) (ho : g.order = some { order := o, expiry := some e }) (hdue : e ≤ max s.now t) :
    exec (.orderTimeout t i) s = .next ((s.tick t).loseOrder i o).finish := by
  have hexec : exec (.orderTimeout t i) s = .next ((s.tick t).orderExpiry i).finish := rfl
  have hgroup : (s.tick t).group i = some g := hg
  rw [hexec]
  simp only [State.orderExpiry, hgroup, ho, Option.any_some]
  rw [if_pos (decide_eq_true (show e ≤ (s.tick t).now from hdue))]

/-- R99: a dropped order has no RELAY pending. -/
theorem isPending_dropOrder {s : State} {i : SlotId} {g : Machine.Group} {o : OrderInFlight} (hg : s.group i = some g)
    (ho : g.order = some o) : (s.dropOrder i).isPending g.channel (.phase g.phase) .relay = false := by
  rw [dropOrder_eq hg ho, isPending_orphan, isPending_withdraw_self]

@[simp] theorem dropOrder_table (s : State) (i : SlotId) : (s.dropOrder i).table = s.table := by
  unfold State.dropOrder
  repeat' split
  all_goals simp

@[simp] theorem dropOrder_attention (s : State) (i : SlotId) : (s.dropOrder i).attention = s.attention := by
  unfold State.dropOrder
  repeat' split
  all_goals simp

/-- Settles O28: the order is dropped and told; the record of an unconfirmed STOP stands before the cause is added. -/
theorem orderTimesOut : Obligations.OrderTimesOut := by
  intro t i g o e s hg ho hdue
  have hexec := exec_orderTimeout hg ho hdue
  have hdrop := slot_dropOrder (s := s.tick t) (i := i) hg
  have htold : ((s.tick t).dropOrder i).toLeader i (.unconfirmed o.seq) = ((s.tick t).dropOrder i).setSlot i
      { changed := (s.slot i).changed,
        body := .held (noticed { g with order := none } (.unconfirmed o.seq) .leader) } := by
    rw [toLeader_eq _ (group_of_body (by rw [hdrop])), hdrop]
    rfl
  refine ⟨fun hne => ⟨_, hexec, ?_⟩, fun hstop hsound => ⟨_, hexec, ?_⟩⟩
  · simp only [State.loseOrder, if_neg hne]
    rw [htold, mark_setSlot]
    refine ⟨group_setSlot_held .., by simp, fun j hj => ?_, ?_, by simp, by simp⟩
    · rw [slot_setSlot_ne _ _ (Ne.symm hj), slot_dropOrder_ne _ hj, slot_tick]
    · rw [isPending_setSlot]
      exact isPending_dropOrder (s := s.tick t) hg ho
  · have hgsound := hsound i g hg
    have hservice : InService g := (hgsound.order (by simp [ho])).1
    have hcauses := hgsound.causes (entersHalt_of_inService hservice)
    simp only [State.loseOrder, if_pos hstop]
    rw [htold, mark_setSlot, modGroup_setSlot]
    set x : Machine.Group := { noticed { g with order := none } (.unconfirmed o.seq) .leader with
      unconfirmed := some o.seq } with hx
    have hxg : (((s.tick t).dropOrder i).setSlot i { changed := true, body := .held x }).group i = some x :=
      group_setSlot_held ..
    have henters : x.state.entersHalt = true := entersHalt_of_inService hservice
    refine ⟨halted_addCause hxg henters hcauses, ?_⟩
    obtain ⟨ns, hns⟩ := group_addCause_first (c := .stopUnconfirmed) hxg henters hcauses
    exact ⟨_, hns, rfl⟩

/-- Settles O32: the wait is gone and the cause is in the set when the group enters HALT. -/
theorem releaseLost : Obligations.ReleaseLost := by
  intro t i g e s hg hstate hwait hdue
  have hgroup : (s.tick t).group i = some g := hg
  have hexec : exec (.releaseTimeout t i) s = .next ((s.tick t).releaseExpiry i).finish := rfl
  have hwaitDue : g.waitDue .release (s.tick t).now = true := by
    simpa [Group.waitDue, hwait] using hdue
  have hlose : (s.tick t).releaseExpiry i = ((s.tick t).setSlot i
      { changed := true, body := .held { g with wait := none, causes := g.causes.add .releaseLost } }).enterHalt i := by
    rw [State.releaseExpiry, if_pos (by rw [hgroup]; exact hwaitDue), State.loseRelease, modGroup_eq _ hgroup, mark_setSlot]
  refine ⟨_, hexec, ?_, ?_⟩
  · rw [hlose]
    exact halted_enterHalt (group_setSlot_held ..)
  · rw [hlose]
    obtain ⟨ns, hns⟩ := halting_shape { g with wait := none, causes := g.causes.add .releaseLost }
    refine ⟨_, group_of_body (by rw [slot_enterHalt (group_setSlot_held ..)]), ?_⟩
    rw [hns]
    rfl

end Sys2Proof.HaltProofs
end

section
/-!
Registration and membership (R3, R4, R6 to R10, R27, R31 to R39) and the confirmation of an order (R108, R109): the frames
that write the group's slot, the table and at most one channel notice.
-/
namespace Sys2Proof.MemberProofs
open Sys2Proof Sys2Proof.Machine Sys2Proof.Machine.Laws Sys2Proof.CommandProofs Sys2Proof.DeviceProofs
  Sys2Proof.SlotProofs Sys2Proof.RecordProofs Sys2Proof.FrameProofs Sys2Proof.FloorProofs Sys2Proof.HaltProofs

/-! ### CHECK-IN -/

theorem exec_checkIn (t : Instant) (c : Chan) (f : UplinkFrame) (s : State) :
    exec (.checkIn t c f) s = .next (uplink .checkIn c f (s.tick t)).finish := rfl

theorem uplink_unknown {s : State} {c : Chan} {f : UplinkFrame} {k : RadioKind} (h : FromUnknown s c f)
    (hk : radioKindOf f.declared = some k) : uplink .checkIn c f s = s.register c f k := by
  have hdiscards : s.discards .checkIn c f = false := discards_false h.arrives fun _ => by rw [hk]; rfl
  simp [uplink, State.intake, hdiscards, h.noEntry, h.noPlace, hk]

theorem uplink_entry {s : State} {c : Chan} {f : UplinkFrame} {k : RadioKind} {e : RegEntry} (h : Arrives s c f)
    (he : s.entry f.sender = some e) (hk : radioKindOf f.declared = some k) :
    uplink .checkIn c f s = s.reregister c f k e := by
  have hdiscards : s.discards .checkIn c f = false := discards_false h fun _ => by rw [hk]; rfl
  simp [uplink, State.intake, hdiscards, he, hk]

theorem arrives_tick {s : State} {c : Chan} {f : UplinkFrame} (t : Instant) (h : Arrives s c f) :
    Arrives (s.tick t) c f := ⟨h.pass, h.listed, h.sender, h.live⟩

theorem fromUnknown_tick {s : State} {c : Chan} {f : UplinkFrame} (t : Instant) (h : FromUnknown s c f) :
    FromUnknown (s.tick t) c f := ⟨arrives_tick t h.arrives, h.noEntry, h.noPlace⟩

theorem fromRegistered_tick {s : State} {c : Chan} {f : UplinkFrame} {e : RegEntry} (t : Instant)
    (h : FromRegistered s c f e) : FromRegistered (s.tick t) c f e := ⟨arrives_tick t h.arrives, h.entry, h.channel⟩

theorem tableHasRoom_iff {s : State} : s.tableHasRoom = true ↔ s.table.length < 96 := by simp [State.tableHasRoom]

/-- Settles O21: the three branches of Intake for a CHECK-IN, each written out. -/
theorem checkInRegisters : Obligations.CheckInRegisters := by
  intro t c f k s hk
  refine ⟨fun h hroom => ⟨_, exec_checkIn t c f s, ?_⟩, fun h hfull => ?_, fun e h he hpin => ⟨_, exec_checkIn t c f s, ?_⟩⟩
  · rw [uplink_unknown (fromUnknown_tick t h) hk, State.register,
      if_pos (show (s.tick t).tableHasRoom = true from tableHasRoom_iff.mpr hroom)]
    refine ⟨rfl, rfl, rfl, rfl, rfl, fun j => ?_⟩
    simp only [State.releaseHolds, Vector.get_ofFn]
    rfl
  · have hno : ¬ (s.tick t).tableHasRoom = true := fun hr => by
      have := tableHasRoom_iff.mp hr
      rw [tick_table] at this
      omega
    rw [exec_checkIn, uplink_unknown (fromUnknown_tick t h) hk, State.register, if_neg hno]
    rfl
  · rw [uplink_entry (arrives_tick t h) (e := e) he hk, State.reregister, hpin]
    exact ⟨rfl, rfl, rfl, rfl⟩

/-! ### The pending join -/

theorem noticeToEntry_eq {s : State} {r : Radio} {e : RegEntry} (n : Notice) (call : Nat) (h : s.entry r = some e) :
    s.noticeToEntry r n call = s.setChan e.channel ((s.chan e.channel).noted (.notice n) r call) := by
  simp only [State.noticeToEntry, h]
  rfl

@[simp] theorem entry_modGroup (s : State) (i : SlotId) (f : Machine.Group → Machine.Group) (r : Radio) :
    (s.modGroup i f).entry r = s.entry r := by simp [State.entry]

@[simp] theorem entry_setSlot (s : State) (i : SlotId) (v : Slot) (r : Radio) : (s.setSlot i v).entry r = s.entry r := rfl

@[simp] theorem entry_setChan (s : State) (c : Chan) (v : Channel) (r : Radio) : (s.setChan c v).entry r = s.entry r := rfl

theorem mark_setSlot_table (s : State) (i : SlotId) (v : Slot) (l : List RegEntry) :
    ({ s.setSlot i v with table := l } : State).mark i = { s.setSlot i { v with changed := true } with table := l } :=
  mark_setSlot { s with table := l } i v

/-- R8: an entry that is not due stays, unpinned. -/
theorem unpin_eq {s : State} {r : Radio} {e : RegEntry} (h : s.entry r = some e)
    (hdue : s.now < e.lastHeard + 1000 * s.device.regExpiry) :
    s.unpin r = { s with table := s.table.map fun e => if e.radio = r then { e with pinned := none } else e } := by
  have hno : ¬ s.entryDue e = true := fun hd => by
    have : e.lastHeard + 1000 * s.device.regExpiry ≤ s.now := by simpa [State.entryDue] using hd
    exact absurd this (Nat.not_le.mpr hdue)
  simp only [State.unpin, h, if_neg hno]

/-- R8, R35, R36: the end of a pending join whose handset stays registered. -/
theorem endJoin_eq {s : State} {i : SlotId} {g : Machine.Group} {j : PendingJoin} {e : RegEntry} (n : Notice) (call : Nat)
    (hg : s.group i = some g) (he : s.entry j.radio = some e)
    (hdue : s.now < e.lastHeard + 1000 * s.device.regExpiry) :
    endJoin s i j n call
      = { (s.setChan e.channel ((s.chan e.channel).noted (.notice n) j.radio call)).setSlot i
            { changed := true, body := .held { g with join := none } } with
          table := s.table.map fun x : RegEntry => if x.radio = j.radio then { x with pinned := none } else x } := by
  rw [endJoin, modGroup_eq _ hg, noticeToEntry_eq n call (show (s.setSlot i _).entry j.radio = some e from he),
    unpin_eq (e := e) (show ((s.setSlot i _).setChan e.channel _).entry j.radio = some e from he) hdue]
  exact mark_setSlot_table (s.setChan e.channel _) i _ _

/-- R15: a frame from a radio with an entry on the entry's channel, other than a CHECK-IN. -/
theorem uplink_registered {s : State} {k : UplinkKind} {c : Chan} {f : UplinkFrame} {e : RegEntry}
    (h : FromRegistered s c f e) (hk : k ≠ .checkIn) :
    uplink k c f s = s.registeredFrame k c f e (entryAct k c f e) := by
  have hdiscards : s.discards k c f = false := discards_false h.arrives fun hc => absurd hc hk
  simp [uplink, State.intake, hdiscards, h.entry, hk]

/-- Settles O35: the frame comes to the join protocol, whose checks all pass. -/
theorem joinStarts : Obligations.JoinStarts := by
  intro t c f e i g s h hkind hpin hcall hg hstate hcrew hjoin hchan hjam
  have hexec : exec (.join t c f) s = .next (uplink .join c f (s.tick t)).finish := rfl
  have hframe : uplink .join c f (s.tick t) = (s.tick t).joinAct c f e := by
    rw [uplink_registered (fromRegistered_tick t h) (by simp), State.registeredFrame, if_neg (by simp [h.channel]), if_pos (by simp [hpin])]
    rfl
  have hslot : (s.tick t).slotOfCall f.call = some i := hcall
  have hgroup : (s.tick t).group i = some g := hg
  have hpass : (s.tick t).joinRefusal e g = none := by
    simp [State.joinRefusal, hstate, hcrew, hjoin, hchan, hjam]
  have hpinned : ((s.tick t).pin f.sender i).group i = some g := hg
  have hact : (s.tick t).joinAct c f e = (s.tick t).startJoin i f.sender := by
    simp only [State.joinAct, ne_eq, hkind, not_true, if_false, hslot, hgroup, hpass]
  rw [hexec, hframe, hact, State.startJoin, modGroup_eq _ hpinned, mark_setSlot, toLeader_setSlot]
  rfl

/-- Settles O36: the notice, the two writes of the slot and the entry that leaves. -/
theorem admitJoins : Obligations.AdmitJoins := by
  intro t c f i g g1 j e s h hg1 hjoin hj he
  have hexec : exec (.admitFrame t c f) s = .next (((s.tick t).presence i f.sender).admitAct f i).finish :=
    exec_member_plain (k := .admitFrame) t h (by simp) rfl (by simp)
  set v := (s.tick t).presence i f.sender with hv
  have hve : v.entry f.named = some e := by simpa [hv] using he
  have hact : v.admitAct f i = v.admitJoin i g1 f.named := by
    simp [State.admitAct, hg1, hjoin, hj]
  have hnoticed : (v.setChan e.channel ((v.chan e.channel).noted (.notice .admitted) f.named g1.call)).group i
      = some g1 := hg1
  have hdropped : ((v.setChan e.channel ((v.chan e.channel).noted (.notice .admitted) f.named g1.call)).setSlot i
      { changed := (v.slot i).changed, body := .held { g1 with join := none } }).dropEntry f.named
      = ({ v.setChan e.channel ((v.chan e.channel).noted (.notice .admitted) f.named g1.call) with
          table := v.table.filter fun x => x.radio != f.named } : State).setSlot i
        { changed := (v.slot i).changed, body := .held { g1 with join := none } } := rfl
  rw [hexec, hact, State.admitJoin, noticeToEntry_eq _ _ hve, modGroup_eq _ hnoticed, slot_setChan, hdropped,
    modGroup_setSlot, mark_setSlot]
  simp only [hv, chan_presence, chan_tick, presence_table, tick_table]
  rfl

theorem entryDue_iff {s : State} {e : RegEntry} :
    s.entryDue e = true ↔ e.lastHeard + 1000 * s.device.regExpiry ≤ s.now := by simp [State.entryDue]

/-- Settles O37: a REFUSE and a join timeout end the pending join; a registration expiry looks at the pin and the time. -/
theorem joinEnds : Obligations.JoinEnds := by
  refine ⟨fun t c f i g g1 j e s h hg1 hjoin hj he hdue => ?_, fun t i g j e s hg hjoin hexpired he hdue => ?_,
    fun t r e s he => ⟨fun hpin hdue => ?_, fun hpin => ?_⟩⟩
  · have hexec : exec (.refuse t c f) s = .next (((s.tick t).presence i f.sender).refuseAct f i).finish :=
      exec_member_plain (k := .refuse) t h (by simp) rfl (by simp)
    have hact : ((s.tick t).presence i f.sender).refuseAct f i
        = endJoin ((s.tick t).presence i f.sender) i j (.refused false) g1.call := by
      rw [← cancelJoin_eq false hg1 hjoin]
      simp [State.refuseAct, hg1, hjoin, hj]
    rw [hexec, hact, endJoin_eq (e := e) _ _ hg1 (by simpa [hj] using he) (by simpa using hdue)]
    simp [hj]
  · have hexec : exec (.joinTimeout t i) s = .next ((s.tick t).joinExpiry i).finish := rfl
    have hgroup : (s.tick t).group i = some g := hg
    have hend : (s.tick t).joinExpiry i = endJoin (s.tick t) i j .noAnswer g.call := by
      simp only [State.joinExpiry, hgroup, hjoin]
      exact if_pos hexpired
    rw [hexec, hend, endJoin_eq (s := s.tick t) (e := e) _ _ hg he hdue]
    rfl
  · have hexec : exec (.registrationExpiry t r) s = .next ((s.tick t).registrationExpiry r).finish := rfl
    have hentry : (s.tick t).entry r = some e := he
    have hd : (s.tick t).entryDue e = true := entryDue_iff.mpr hdue
    rw [hexec, State.registrationExpiry, if_pos (by simp [hentry, hpin, hd])]
    rfl
  · have hexec : exec (.registrationExpiry t r) s = .next ((s.tick t).registrationExpiry r).finish := rfl
    have hentry : (s.tick t).entry r = some e := he
    have hno : e.pinned.isNone = false := by
      cases hp : e.pinned <;> simp_all
    rw [hexec, State.registrationExpiry, if_neg (by simp [hentry, hno])]

/-! ### Leaving and handing over -/

/-- R22: taking a radio out of the crew list. -/
theorem removeCrew_radios (g : Machine.Group) (r : Radio) :
    (g.removeCrew r).crew.map (·.radio) = (g.crew.map (·.radio)).erase r := by
  have hlist : ∀ l : List Member,
      (match l.findIdx? (fun m : Member => m.radio == r) with
        | none => l
        | some k => l.eraseIdx k).map (fun m : Member => m.radio)
        = (l.map (·.radio)).erase r := by
    intro l
    induction l with
    | nil => rfl
    | cons m l ih =>
      rw [List.findIdx?_cons]
      by_cases hm : m.radio = r
      · simp [hm]
      · have hne : (m.radio == r) = false := by simpa using hm
        rw [hne, List.map_cons, List.erase_cons_tail (by simpa using hm), ← ih]
        cases l.findIdx? fun m => m.radio == r <;> simp
  unfold Group.removeCrew
  have hl := hlist g.crew
  cases hk : g.crew.findIdx? fun m => m.radio == r with
  | none => rw [hk] at hl; exact hl
  | some k => rw [hk] at hl; exact hl

/-- R22, R62: the fields that taking a radio out of the crew list changes. -/
theorem removeCrew_shape (g : Machine.Group) (r : Radio) :
    ∃ ms p, g.removeCrew r = { g with crew := ms, pointer := p } := by
  unfold Group.removeCrew
  split <;> exact ⟨_, _, rfl⟩

/-- R38, R74: a record that loses a crew member. -/
def without (g : Machine.Group) (r : Radio) : Machine.Group := ((g.removeCrew r).closeWindowOf r).uncheck r

theorem without_shape (g : Machine.Group) (r : Radio) :
    ∃ ms p w m, without g r = { g with crew := ms, pointer := p, window := w, move := m }
      ∧ ms.map (·.radio) = (g.crew.map (·.radio)).erase r
      ∧ (g.move = none → m = none)
      ∧ w = if g.window.any (fun w => w.target == r) then none else g.window := by
  obtain ⟨ms, p, hrem⟩ := removeCrew_shape g r
  have hradios := removeCrew_radios g r
  rw [hrem] at hradios
  unfold without Group.closeWindowOf
  rw [hrem, answered_eq]
  unfold Group.uncheck
  cases hm : g.move with
  | none =>
    refine ⟨ms, p, _, none, ?_, hradios, fun _ => rfl, rfl⟩
    rfl
  | some m => exact ⟨ms, p, _, _, rfl, hradios, nofun, rfl⟩

/-- R38, steps 1 to 6, outside a move, with room in the table and no floor held. -/
theorem leaveAct_eq {s : State} {i : SlotId} {g : Machine.Group} {r : Radio} (hg : s.group i = some g)
    (hstate : g.state ≠ .opening) (hmove : g.move = none) (hroom : s.table.length < 96)
    (hfloor : ∀ d h, (s.chan d).talk = some h → h.radio ≠ r) :
    s.leaveAct r i
      = { s.setSlot i { changed := true, body := .held (noticed (without g r) (.memberLeft r) .leader) } with
          table := s.table ++ [{ radio := r, kind := .handset, channel := g.channel, level := 0, lastHeard := s.now,
                                 pinned := none }] } := by
  obtain ⟨ms, p, w, m, hshape, -, hm, -⟩ := without_shape g r
  have hnone : (without g r).move = none := by rw [hshape]; exact hm hmove
  simp only [State.leaveAct, hg, if_neg hstate]
  rw [modGroup_eq _ hg]
  set v := s.setSlot i { changed := (s.slot i).changed, body := .held (without g r) } with hv
  have hkept : v.withdrawFrom r = v := withdrawFrom_self (by simpa [hv] using hfloor)
  rw [show ((g.removeCrew r).closeWindowOf r).uncheck r = without g r from rfl, ← hv, hkept, State.returnRadio,
    if_pos (tableHasRoom_iff.mpr (by simpa [hv] using hroom))]
  set e : RegEntry :=
    { radio := r, kind := .handset, channel := g.channel, level := 0, lastHeard := v.now, pinned := none } with he
  have happend : v.appendEntry e = ({ s with table := s.table ++ [e] } : State).setSlot i
      { changed := (s.slot i).changed, body := .held (without g r) } := rfl
  rw [happend, toLeader_setSlot, mark_setSlot]
  simp only [State.completeMove, group_setSlot_held, noticed, hnone]
  rfl

/-- R71, R72: a judged record agrees with the threshold. -/
theorem warnOk_judged (warn : Nat) (g : Machine.Group) : WarnOk warn (judged warn g) := by
  unfold judged
  split
  · next h => exact ⟨fun hs => (by simp [noticed] at hs), fun _ => h.2⟩
  · next hdown =>
    split
    · next h => exact ⟨fun _ => Bool.eq_false_iff.mpr h.2, fun hs => by simp [noticed] at hs⟩
    · next hup =>
      refine ⟨fun hs => Bool.eq_false_iff.mpr fun hw => hdown ⟨hs, hw⟩, fun hs => ?_⟩
      by_contra hw
      exact hup ⟨hs, hw⟩

theorem warnOk_refreshed (warn : Nat) (g : Machine.Group) (r : Radio) (role : Role) :
    WarnOk warn (refreshed warn g r role) := warnOk_judged warn _

/-- R39: the fields that a hand-over of the lead changes. -/
theorem handTo_shape (g : Machine.Group) (m : Member) :
    ∃ ms p, g.handTo m = { g with leader := m, crew := ms, pointer := p }
      ∧ ms.map (·.radio) = (g.crew.map (·.radio)).erase m.radio ++ [g.leader.radio] := by
  obtain ⟨ms, p, hrem⟩ := removeCrew_shape g m.radio
  have hradios := removeCrew_radios g m.radio
  rw [hrem] at hradios
  refine ⟨ms ++ [g.leader], p, by rw [Group.handTo, hrem], ?_⟩
  rw [List.map_append, hradios]
  rfl

theorem find_radio {l : List Member} {r : Radio} {m : Member} (h : l.find? (fun x => x.radio == r) = some m) :
    m.radio = r := by
  have := List.find?_some h
  simpa using this

/-- R39: a HAND to a crew member above the threshold, of a group that agrees with it. -/
theorem handAct_eq {s : State} {i : SlotId} {g : Machine.Group} {f : UplinkFrame} {m : Member} (hg : s.group i = some g)
    (hm : g.crew.find? (fun x => x.radio == f.named) = some m) (hlevel : s.device.warn < m.level)
    (hstate : g.state = .active ∨ g.state = .halt) (hok : WarnOk s.device.warn g) :
    s.handAct f i
      = s.setSlot i { changed := true, body := .held (noticed (g.handTo m) .leaderNow (.radio m.radio)) } := by
  obtain ⟨ms, p, hshape, -⟩ := handTo_shape g m
  have hno : ¬ (g.state = .opening ∨ g.state = .releasing) := by rcases hstate with h | h <;> simp [h]
  have hzero : ¬ m.level = 0 := by omega
  have hnew : WarnOk s.device.warn (noticed (g.handTo m) .leaderNow (.radio m.radio)) := by
    rw [hshape]
    refine ⟨fun hs => ?_, fun hs => ?_⟩
    · exact warned_eq_false.mpr ⟨(warned_eq_false.mp (hok.1 hs)).1, hlevel⟩
    · rcases hstate with h | h <;> rw [noticed, h] at hs <;> cases hs
  obtain ⟨hjudged, hturns⟩ := judged_of_ok hnew
  simp only [State.handAct, hg, hm, if_neg hno, if_neg hzero]
  rw [modGroup_eq _ hg, toRadio_eq _ _ (group_setSlot_held ..), slot_setSlot_self, setSlot_setSlot, mark_setSlot,
    judgeWarn_setSlot, hjudged, hturns, Bool.or_false]

/-- Settles O38: both frames are one write of the slot, and a LEAVE appends the entry. -/
theorem leaveAndHand : Obligations.LeaveAndHand := by
  intro t c f i g g1 s hg1
  set v := (s.tick t).presence i f.sender with hv
  refine ⟨fun h hstate hmove hroom hfloor => ?_, fun m h hm hsound hwarn hlevel hstate => ?_⟩
  · have hexec : exec (.leave t c f) s = .next (v.leaveAct f.sender i).finish :=
      exec_member_plain (k := .leave) t h (by simp) rfl (by simp)
    obtain ⟨ms, p, w, mv, hshape, hradios, -, -⟩ := without_shape g1 f.sender
    rw [leaveAct_eq hg1 hstate hmove (by simpa [hv] using hroom) (by simpa [hv] using hfloor)] at hexec
    refine ⟨_, _, hexec, group_setSlot_held .., ?_⟩
    rw [hshape]
    refine ⟨hradios, rfl, rfl, rfl, rfl, rfl, congrArg Slot.changed (slot_setSlot_self v i _),
      fun j hj => ?_, ?_, ?_⟩
    · have : (v.setSlot i { changed := true, body := .held (noticed { g1 with crew := ms, pointer := p, window := w, move := mv } (.memberLeft f.sender) .leader) }).slot j = s.slot j := by
        rw [slot_setSlot_ne _ _ (Ne.symm hj), hv, slot_presence_ne _ _ hj, slot_tick]
      exact this
    · simp [hv]
    · simp [hv]
  · have hexec : exec (.hand t c f) s = .next (v.handAct f i).finish :=
      exec_member_plain (k := .hand) t h (by simp) rfl (by simp)
    have hok : WarnOk v.device.warn g1 := by
      rw [hv, presence_eq (s := s.tick t) h.group (fromMember_role h), group_setSlot_held] at hg1
      rw [← Option.some.inj hg1, hv, presence_device]
      exact warnOk_refreshed ..
    obtain ⟨ms, p, hshape, hradios⟩ := handTo_shape g1 m
    have hnamed : m.radio = f.named := find_radio hm
    rw [handAct_eq hg1 hm (by simpa [hv] using hlevel) hstate hok] at hexec
    refine ⟨_, _, hexec, group_setSlot_held .., ?_⟩
    rw [hshape]
    refine ⟨rfl, hnamed ▸ hradios, by rw [hnamed]; rfl, rfl, rfl, rfl, by simp, fun j hj => ?_, by simp [hv], by simp [hv]⟩
    rw [slot_setSlot_ne _ _ (Ne.symm hj), hv, slot_presence_ne _ _ hj, slot_tick]

/-! ### The attachment -/

theorem slot_odometerUpdate_ne (s : State) {i j : SlotId} (f : UplinkFrame) (h : j ≠ i) :
    (s.odometerUpdate i f).slot j = s.slot j := slot_modGroup_ne s _ (Ne.symm h)

/-- Settles O29: the acknowledged attachment, of a group above the threshold. -/
theorem attachmentCompletes : Obligations.AttachmentCompletes := by
  intro t c f i g g1 e s h hg1 hwait hstate hwarned
  set v := ((s.tick t).presence i f.sender).odometerUpdate i f with hv
  have hkind : ∀ w : State, w.takeKind .attachAck i .loco f (memberAct .attachAck f i)
      = (w.odometerUpdate i f).attachAckAct i := fun w => by
    rw [State.takeKind, if_neg (by simp [UplinkKind.carriesMotion]), if_pos rfl, memberAct]
  have hexec : exec (.attachAck t c f) s = .next (v.attachAckAct i).finish := by
    have := exec_member (k := .attachAck) t h (by simp) rfl
    rw [hkind] at this
    exact this
  have hdevice : v.device = s.device := by simp [hv, State.odometerUpdate]
  have hok : WarnOk s.device.warn { noticed { g1 with wait := none } (.assigned g1.loco.radio) .leader with
      state := .active } := ⟨fun _ => hwarned, nofun⟩
  obtain ⟨hjudged, hturns⟩ := judged_of_ok hok
  set w := ((v.modGroup i fun g => { g with wait := none }).withdraw g1.channel (.phase g1.phase) .attach).orphan i
    Frame.isAttach with hw
  have hwg : w.group i = some { g1 with wait := none } := by simp [hw, hg1]
  have hact : v.attachAckAct i = w.setSlot i
      { changed := true,
        body := .held { noticed { g1 with wait := none } (.assigned g1.loco.radio) .leader with state := .active } } := by
    have hwd : w.device = s.device := by
      rw [← hdevice, hw]
      exact device_of_host (by simp)
    simp only [State.attachAckAct, hg1, hwait, Option.any_some, beq_self_eq_true, if_true, hstate]
    rw [← hw, toLeader_eq _ hwg, modGroup_setSlot, mark_setSlot, judgeWarn_setSlot, hwd, hjudged, hturns]
    rfl
  refine ⟨_, hexec, ?_⟩
  rw [hact]
  refine ⟨group_setSlot_held .., ?_, by simp, fun j hj => ?_, ?_, ?_⟩
  · rw [hv, State.odometerUpdate, group_modGroup_self] at hg1
    obtain ⟨x, -, hx⟩ := Option.map_eq_some_iff.mp hg1
    rw [← hx]
  · rw [slot_setSlot_ne _ _ (Ne.symm hj), hw, slot_orphan, slot_withdraw, slot_modGroup_ne _ _ (Ne.symm hj), hv,
      slot_odometerUpdate_ne _ _ hj, slot_presence_ne _ _ hj, slot_tick]
  · rw [isPending_setSlot, hw, isPending_orphan, isPending_withdraw_self]
  · simp [hw, hv, State.odometerUpdate]

/-! ### The confirmation of an order -/

theorem slot_locoUpdate_ne (s : State) {i j : SlotId} (f : UplinkFrame) (h : j ≠ i) :
    (s.locoUpdate i f).slot j = s.slot j := by
  unfold State.locoUpdate
  dsimp only
  split
  · cases hg : s.group i with
    | none => rw [modGroup_free _ hg, State.removeCause, hg]
    | some g => rw [modGroup_eq _ hg, removeCause_setSlot, slot_setSlot_ne _ _ (Ne.symm h)]
  · exact slot_modGroup_ne s _ (Ne.symm h)

@[simp] theorem removeCause_table (s : State) (i : SlotId) (c : Cause) : (s.removeCause i c).table = s.table := by
  cases h : s.group i with
  | none => simp [State.removeCause, h]
  | some g => rw [removeCause_eq c h, setSlot_table]

@[simp] theorem removeCause_attention (s : State) (i : SlotId) (c : Cause) :
    (s.removeCause i c).attention = s.attention := by
  cases h : s.group i with
  | none => simp [State.removeCause, h]
  | some g => rw [removeCause_eq c h, setSlot_attention]

@[simp] theorem locoUpdate_table (s : State) (i : SlotId) (f : UplinkFrame) : (s.locoUpdate i f).table = s.table := by
  unfold State.locoUpdate
  dsimp only
  split <;> simp

@[simp] theorem locoUpdate_attention (s : State) (i : SlotId) (f : UplinkFrame) :
    (s.locoUpdate i f).attention = s.attention := by
  unfold State.locoUpdate
  dsimp only
  split <;> simp

@[simp] theorem dropApproach_table (s : State) (i : SlotId) : (s.dropApproach i).table = s.table := by
  unfold State.dropApproach
  repeat' split
  all_goals simp

@[simp] theorem dropApproach_attention (s : State) (i : SlotId) : (s.dropApproach i).attention = s.attention := by
  unfold State.dropApproach
  repeat' split
  all_goals simp

theorem isPending_dropApproach_relay {s : State} {i : SlotId} {c : Chan} {src : Source} :
    (s.dropApproach i).isPending c src .relay = s.isPending c src .relay := by
  unfold State.dropApproach
  split
  · rfl
  · split
    · rfl
    · rw [isPending_orphan, isPending_withdraw_ne _ (by simp), isPending_modGroup]

/-- What the confirmation of an order leaves of the group `g` of slot `i`, but for the approach record. -/
structure Confirmed (s u : State) (i : SlotId) (g : Machine.Group) (o : Order) (ap : Option Approach) : Prop where
  group : u.group i = some { g with
    order := none
    lastConfirmed := some { kind := o.kind, arg := o.arg }
    approach := ap
    notices := pushNotice g.notices { notice := .confirmed o.seq, dest := .leader } }
  mark : (u.slot i).changed = true
  others : ∀ j, j ≠ i → u.slot j = s.slot j
  relay : u.isPending g.channel (.phase g.phase) .relay = false
  table : u.table = s.table
  attention : u.attention = s.attention

/-- R109: the approach record after the confirmation of an order that is no SLOW. -/
def confirmedApproach (g : Machine.Group) (o : Order) (odometer : Nat) : Option Approach :=
  if o.kind = .count then some { d0 := o.arg * g.wagon, ref := odometer, latch := false } else none

theorem approachOnConfirm_eq {s : State} {i : SlotId} {o : Order} (odometer : Nat) (hk : o.kind ≠ .slow) :
    s.approachOnConfirm i o odometer = if o.kind = .count then (s.dropApproach i).modGroup i fun g =>
        { g with approach := some { d0 := o.arg * g.wagon, ref := odometer, latch := false } }
      else s.dropApproach i := by
  unfold State.approachOnConfirm
  cases hkind : o.kind <;> simp_all

theorem confirmed_confirmOrder {s : State} {i : SlotId} {g : Machine.Group} {x : OrderInFlight} (odometer : Nat)
    (hg : s.group i = some g) (ho : g.order = some x) (hk : x.order.kind ≠ .slow) :
    Confirmed s (s.confirmOrder i x.order odometer) i g x.order (confirmedApproach g x.order odometer) := by
  set o := x.order with hx
  have hdrop := slot_dropOrder hg
  set v := (s.dropOrder i).modGroup i fun g => { g with lastConfirmed := some { kind := o.kind, arg := o.arg } } with hv
  have hvg : v.group i = some { g with order := none, lastConfirmed := some { kind := o.kind, arg := o.arg } } := by
    rw [hv, group_modGroup_self, group_of_body (by rw [hdrop])]
    rfl
  have hslot := slot_dropApproach hvg
  set w := v.approachOnConfirm i o odometer with hw
  have hwg : w.group i = some { g with
      order := none, lastConfirmed := some { kind := o.kind, arg := o.arg },
      approach := confirmedApproach g o odometer } := by
    rw [hw, approachOnConfirm_eq odometer hk]
    unfold confirmedApproach
    by_cases hc : o.kind = .count
    · rw [if_pos hc, if_pos hc, group_modGroup_self, group_of_body (by rw [hslot])]
      rfl
    · rw [if_neg hc, if_neg hc]
      exact group_of_body (by rw [hslot])
  have hkept : (∀ j, j ≠ i → w.slot j = s.slot j) ∧ w.isPending g.channel (.phase g.phase) .relay = false
      ∧ w.table = s.table ∧ w.attention = s.attention := by
    have hothers : ∀ j, j ≠ i → (v.dropApproach i).slot j = s.slot j := fun j hj => by
      rw [slot_dropApproach_ne _ hj, hv, slot_modGroup_ne _ _ (Ne.symm hj), slot_dropOrder_ne _ hj]
    have hrelay : (v.dropApproach i).isPending g.channel (.phase g.phase) .relay = false := by
      rw [isPending_dropApproach_relay, hv, isPending_modGroup, isPending_dropOrder hg ho]
    rw [hw, approachOnConfirm_eq odometer hk]
    split
    · refine ⟨fun j hj => ?_, ?_, by simp [hv], by simp [hv]⟩
      · rw [slot_modGroup_ne _ _ (Ne.symm hj), hothers j hj]
      · rw [isPending_modGroup, hrelay]
    · exact ⟨hothers, hrelay, by simp [hv], by simp [hv]⟩
  obtain ⟨hothers, hrelay, htable, hattention⟩ := hkept
  have heq : s.confirmOrder i o odometer = (w.toLeader i (.confirmed o.seq)).mark i := rfl
  rw [heq, toLeader_eq _ hwg, mark_setSlot]
  exact ⟨group_setSlot_held .., by simp, fun j hj => by rw [slot_setSlot_ne _ _ (Ne.symm hj), hothers j hj], hrelay,
    htable, hattention⟩

/-- R117: right at the reference nothing has been travelled. -/
theorem travelled_self {n : Nat} (h : n < 65536) : travelled n n = 0 := by
  have : n + (65536 - n) = 65536 := by omega
  simp [travelled, this]

/-- R119: a check right at the reference of a fresh record, of a loco within the permitted speed, does nothing. -/
theorem approachCheck_fresh {s : State} {i : SlotId} {g : Machine.Group} {d0 odometer speed : Nat} (m : Motion)
    (hg : s.group i = some g) (hap : g.approach = some { d0 := d0, ref := odometer, latch := false })
    (hservice : InService g) (hodometer : odometer < 65536) (hpos : 0 < d0)
    (hspeed : speed ≤ permittedSpeed s.device.curve s.device.bandShift d0) :
    s.approachCheck i speed odometer m = s := by
  have hrem : remaining { d0 := d0, ref := odometer, latch := false } odometer = d0 := by
    simp [remaining, travelled_self hodometer]
  have hexcess : speedExcess speed (permittedSpeed s.device.curve s.device.bandShift d0) ≤ 0 := by
    simp only [speedExcess]
    omega
  have hhalt : ¬ (s.device.haltExcess : Int)
      < speedExcess speed (permittedSpeed s.device.curve s.device.bandShift d0) := by omega
  have hease : speedExcess speed (permittedSpeed s.device.curve s.device.bandShift d0) ≤ s.device.easeTol := by omega
  have hend : ¬ (m = .standing ∧ d0 = 0) := by omega
  simp only [State.approachCheck, hg, hap, hrem]
  rw [if_pos (show g.state = .active ∨ g.state = .degraded from hservice), if_neg hhalt]
  simp only [State.approachOutcome, if_pos hease, Bool.false_eq_true, if_false, if_neg hend]

/-- R108: an ORDER-ACK of the SENT order's sequence confirms it. -/
theorem orderAckAct_eq {s : State} {i : SlotId} {g : Machine.Group} {f : UplinkFrame} {o : Order} {e : Instant}
    (hg : s.group i = some g) (ho : g.order = some { order := o, expiry := some e }) (hseq : f.sequence % 16 = o.seq) :
    s.orderAckAct f i = s.confirmOrder i o f.odometer := by
  have hconfirms : s.confirms g (sequenceOf f.sequence) = true := by
    simp [State.confirms, ho, sequenceOf, hseq]
  simp only [State.orderAckAct, hg, ho, hconfirms, if_true]

/-- Settles O26: the confirmation's own effect, which the approach check that follows leaves as it is. -/
theorem orderConfirmed : Obligations.OrderConfirmed := by
  intro t c f i g g1 o e s h hg1 ho hseq
  set v := ((s.tick t).presence i f.sender).locoUpdate i f with hv
  have hexec : exec (.orderAck t c f) s = .next ((v.confirmOrder i o f.odometer).approachCheck i (speedOf f.speed)
      f.odometer (motionOf f.motion)).finish := by
    have := exec_member (k := .orderAck) t h (by simp) rfl
    rw [takeKind_loco rfl, memberAct, orderAckAct_eq hg1 ho hseq] at this
    exact this
  have hkept : (∀ j, j ≠ i → v.slot j = s.slot j) ∧ v.table = s.table ∧ v.attention = s.attention :=
    ⟨fun j hj => by rw [hv, slot_locoUpdate_ne _ _ hj, slot_presence_ne _ _ hj, slot_tick], by simp [hv], by simp [hv]⟩
  obtain ⟨hothers, htable, hattention⟩ := hkept
  refine ⟨fun hk => ⟨_, hexec, ?_⟩, fun hk hnone hservice hspeed hpos htol hodometer => ⟨_, hexec, ?_⟩⟩
  · have hkind : o.kind ≠ .slow ∧ o.kind ≠ .count := by rcases hk with hk | hk | hk <;> simp [hk]
    obtain ⟨hgroup, hmark, hoth, hrelay, htab, hatt⟩ := confirmed_confirmOrder f.odometer hg1 ho hkind.1
    have happroach : confirmedApproach g1 o f.odometer = none := if_neg hkind.2
    dsimp only at hgroup hmark hoth hrelay htab hatt
    rw [happroach] at hgroup
    rw [approachCheck_none _ _ _ hgroup rfl]
    exact ⟨hgroup, hmark, fun j hj => (hoth j hj).trans (hothers j hj), hrelay, htab.trans htable, hatt.trans hattention⟩
  · obtain ⟨hgroup, hmark, hoth, hrelay, htab, hatt⟩ := confirmed_confirmOrder f.odometer hg1 ho (by simp [hk])
    have happroach : confirmedApproach g1 o f.odometer
        = some { d0 := o.arg * g1.wagon, ref := f.odometer, latch := false } := if_pos hk
    dsimp only at hgroup hmark hoth hrelay htab hatt
    rw [happroach] at hgroup
    have hdevice : (v.confirmOrder i o f.odometer).device = s.device := by
      rw [device_of_host (confirmOrder_host v i o f.odometer), hv]
      exact (device_of_host (locoUpdate_host _ i f)).trans (by simp)
    rw [approachCheck_fresh _ hgroup rfl hservice hodometer hpos (by rw [hdevice]; exact hspeed)]
    rw [hk] at hgroup
    exact ⟨hgroup, hmark, fun j hj => (hoth j hj).trans (hothers j hj), hrelay, htab.trans htable, hatt.trans hattention⟩

end Sys2Proof.MemberProofs
end

section
/-!
Release and retirement (R28, R40, R41, R43 to R45) of a group that holds no pending join, no second phase and no talk floor.
-/
namespace Sys2Proof.ReleaseProofs
open Sys2Proof Sys2Proof.Machine Sys2Proof.Machine.Laws Sys2Proof.CommandProofs Sys2Proof.DeviceProofs
  Sys2Proof.PortProofs Sys2Proof.SlotProofs Sys2Proof.RecordProofs Sys2Proof.FrameProofs Sys2Proof.FloorProofs
  Sys2Proof.HaltProofs Sys2Proof.MemberProofs

/-! ### Retirement -/

/-- R10: the entry of a radio that a group returns at `now`. -/
def returnEntry (c : Chan) (now : Instant) (p : Radio × RadioKind) : RegEntry :=
  { radio := p.1, kind := p.2, channel := c, level := 0, lastHeard := now, pinned := none }

/-- R10, R11: radios that find room are appended in order. -/
theorem foldl_returnRadio (c : Chan) (l : List (Radio × RadioKind)) {s : State} (h : s.table.length + l.length ≤ 96) :
    l.foldl (fun s p => s.returnRadio p.1 p.2 c) s = { s with table := s.table ++ l.map (returnEntry c s.now) } := by
  induction l generalizing s with
  | nil => simp
  | cons p l ih =>
    have hlen : s.table.length < 96 := by
      rw [List.length_cons] at h
      omega
    have hstep : s.returnRadio p.1 p.2 c = { s with table := s.table ++ [returnEntry c s.now p] } := by
      rw [State.returnRadio, if_pos (tableHasRoom_iff.mpr hlen)]
      rfl
    rw [List.foldl_cons, hstep, ih (by simp only [List.length_append, List.length_cons, List.length_nil] at h ⊢; omega)]
    simp

/-- A group that holds neither a pending join nor a second phase nor a talk floor. -/
structure Unbound (s : State) (g : Machine.Group) : Prop where
  join : g.join = none
  move : g.move = none
  finalHalt : g.finalHalt = none
  floors : ∀ c h, (s.chan c).talk = some h → h.radio ∉ g.radios

theorem length_returned_le (g : Machine.Group) (o : SlotOutcome) : (g.returned o).length ≤ 2 + g.crew.length := by
  unfold Group.returned
  split
  · simp
  · simp
    omega

theorem withdrawSources_plain {g : Machine.Group} {s : State} (hm : g.move = none) (hf : g.finalHalt = none) :
    s.withdrawSources g = s.withdrawSource g.channel (.phase g.phase) := by simp only [State.withdrawSources, hm, hf]

theorem freePhases_plain {g : Machine.Group} {s : State} (hm : g.move = none) (hf : g.finalHalt = none) :
    s.freePhases g = s.freePhase g.channel g.phase := by simp only [State.freePhases, hm, hf]

/-- The pairings of the standing opening, held where it fails (R31). -/
theorem pairings_holdPairing (s : State) (k : PairingId) : ((s.holdPairing (some k)).pairings.get k).held = true := by
  simp [State.holdPairing, Vector.get_eq_getElem]

theorem holdPairing_shape (s : State) (k : Option PairingId) : ∃ q, s.holdPairing k = { s with pairings := q } := by
  cases k with
  | none => exact ⟨s.pairings, rfl⟩
  | some k => exact ⟨_, rfl⟩

/-- The state of a retirement before its pairing is held: the floors and the join have nothing to say. -/
def vacatedSlot (s : State) (i : SlotId) (g : Machine.Group) (o : SlotOutcome) : State :=
  ((({ ((s.modGroup i fun g => { g with state := .releasing }).withdrawSource g.channel (.phase g.phase)).orphan i
        fun _ => true with
      table := s.table ++ (g.returned o).map (returnEntry g.channel s.now) } : State).freePhase g.channel g.phase).setSlot i
    { changed := true, body := .free o })

theorem retire_eq {s : State} {i : SlotId} {g : Machine.Group} (o : SlotOutcome) (hg : s.group i = some g)
    (h : Unbound s g) (hroom : s.table.length + 2 + g.crew.length ≤ 96) :
    s.retire i o
      = { (if o = .openFailed then (vacatedSlot s i g o).holdPairing g.pairing else vacatedSlot s i g o) with
          examine := true } := by
  set v := s.modGroup i fun g => { g with state := .releasing } with hv
  have hvg : v.group i = some { g with state := .releasing } := by rw [hv, group_modGroup_self, hg]; rfl
  have hfloor : v.withdrawGroup channels g.radios = v :=
    withdrawGroup_self fun c _ f hf => h.floors c f (by simpa [hv] using hf)
  set w := (v.withdrawSource g.channel (.phase g.phase)).orphan i fun _ => true with hw
  have hwtable : w.table = s.table := by simp [hw, hv, State.withdrawSource]
  have hwnow : w.now = s.now := by
    obtain ⟨c, hc⟩ := orphan_eq (v.withdrawSource g.channel (.phase g.phase)) i fun _ => true
    rw [hw, hc, hv]
    exact modGroup_now s i _
  have hreturned : (g.returned o).foldl (fun s p => s.returnRadio p.1 p.2 g.channel) w
      = { w with table := s.table ++ (g.returned o).map (returnEntry g.channel s.now) } := by
    rw [foldl_returnRadio _ _ (by have := length_returned_le g o; rw [hwtable]; omega), hwtable, hwnow]
  simp only [State.retire, hg]
  rw [← hv, cancelJoin_none false hvg h.join, hfloor, withdrawSources_plain h.move h.finalHalt, ← hw, hreturned,
    freePhases_plain h.move h.finalHalt]
  rfl

theorem chan_vacatedSlot (s : State) (i : SlotId) (g : Machine.Group) (o : SlotOutcome) :
    ∃ fr, (vacatedSlot s i g o).chan g.channel = { s.chan g.channel with
      reqs := (s.chan g.channel).reqs.filter fun r => !(r.source == .phase g.phase)
      inFlight := fr
      occupancy := (s.chan g.channel).occupancy.set g.phase none } := by
  refine ⟨orphanIf i (fun _ => true) (s.chan g.channel).inFlight, ?_⟩
  have horphan : ∀ (u : State) (l : List RegEntry), ({ u with table := l } : State).chan g.channel = u.chan g.channel :=
    fun _ _ => rfl
  have hfree : ∀ u : State, (u.freePhase g.channel g.phase).chan g.channel
      = { u.chan g.channel with occupancy := (u.chan g.channel).occupancy.set g.phase none } := fun u =>
    chan_modChan_self u g.channel fun ch => { ch with occupancy := ch.occupancy.set g.phase none }
  rw [vacatedSlot, chan_setSlot, hfree, horphan, chan_orphan, State.withdrawSource, chan_modChan_self, chan_modGroup]

theorem slot_vacatedSlot_ne (s : State) {i j : SlotId} (g : Machine.Group) (o : SlotOutcome) (hj : j ≠ i) :
    (vacatedSlot s i g o).slot j = s.slot j := by
  have hkept : ∀ (u : State) (l : List RegEntry), (({ u with table := l } : State).freePhase g.channel g.phase).slot j
      = u.slot j := fun _ _ => rfl
  rw [vacatedSlot, slot_setSlot_ne _ _ (Ne.symm hj), hkept, slot_orphan, State.withdrawSource, slot_modChan,
    slot_modGroup_ne _ _ (Ne.symm hj)]

theorem retired_vacatedSlot (s : State) (i : SlotId) (g : Machine.Group) (o : SlotOutcome) :
    Retired s (vacatedSlot s i g o) i g o (g.returned o) := by
  obtain ⟨fr, hchan⟩ := chan_vacatedSlot s i g o
  refine ⟨slot_setSlot_self .., fun j hj => slot_vacatedSlot_ne s g o hj, rfl, ?_, fun r hr => ?_⟩
  · rw [hchan]
    simp [Vector.get_eq_getElem]
  · rw [hchan] at hr
    simpa using (List.mem_filter.mp hr).2

/-- R44: a retirement leaves what `Retired` says. -/
theorem retired_retire {s : State} {i : SlotId} {g : Machine.Group} (o : SlotOutcome) (hg : s.group i = some g)
    (h : Unbound s g) (hroom : s.table.length + 2 + g.crew.length ≤ 96) :
    Retired s (s.retire i o) i g o (g.returned o) := by
  obtain ⟨hslot, hothers, htable, hphase, hreqs⟩ := retired_vacatedSlot s i g o
  rw [retire_eq o hg h hroom]
  split
  · obtain ⟨q, hq⟩ := holdPairing_shape (vacatedSlot s i g o) g.pairing
    rw [hq]
    exact ⟨hslot, hothers, htable, hphase, hreqs⟩
  · exact ⟨hslot, hothers, htable, hphase, hreqs⟩

theorem unbound_of_presence {s : State} {c : Chan} {f : UplinkFrame} {i : SlotId} {g : Machine.Group}
    (t : Instant) (hplace : FromMember s c f i .loco g) (h : Unbound s g) :
    ∃ g', ((s.tick t).presence i f.sender).group i = some g' ∧ Unbound ((s.tick t).presence i f.sender) g'
      ∧ g'.wait = g.wait ∧ g'.channel = g.channel ∧ g'.phase = g.phase
      ∧ (∀ o, g'.returned o = g.returned o) ∧ g'.crew.length = g.crew.length := by
  set g' := refreshed (s.tick t).device.warn (g.answered f.sender) f.sender .loco with hg'
  have hgroup : ((s.tick t).presence i f.sender).group i = some g' := by
    rw [presence_eq (show (s.tick t).group i = some g from hplace.group) (fromMember_role hplace), group_setSlot_held]
  obtain ⟨hloco, hleader, hcrew⟩ := refreshed_radios (s.tick t).device.warn (g.answered f.sender) f.sender .loco
  have hradios : g'.loco.radio = g.loco.radio ∧ g'.leader.radio = g.leader.radio
      ∧ g'.crew.map (·.radio) = g.crew.map (·.radio) := by
    rw [hg', hloco, hleader, hcrew, answered_eq]
    exact ⟨rfl, rfl, rfl⟩
  obtain ⟨hloco, hleader, hcrew⟩ := hradios
  obtain ⟨_, _, _, _, _, _, hshape⟩ := refreshed_shape (s.tick t).device.warn (g.answered f.sender) f.sender .loco
  rw [← hg', answered_eq] at hshape
  have hmap : g'.crew.map (fun m => (m.radio, RadioKind.handset)) = g.crew.map fun m => (m.radio, RadioKind.handset) := by
    have := congrArg (List.map fun r : Radio => (r, RadioKind.handset)) hcrew
    rw [List.map_map, List.map_map] at this
    exact this
  refine ⟨g', hgroup, ⟨?_, ?_, ?_, fun d x hx => ?_⟩, ?_, ?_, ?_, fun o => ?_, ?_⟩
  · rw [hshape]; exact h.join
  · rw [hshape]; exact h.move
  · rw [hshape]; exact h.finalHalt
  · have hrs : g'.radios = g.radios := by simp [Group.radios, hloco, hleader, hcrew]
    rw [hrs]
    exact h.floors d x (by simpa using hx)
  · rw [hshape]
  · rw [hshape]
  · rw [hshape]
  · simp [Group.returned, hloco, hleader, hmap]
  · simpa using congrArg List.length hcrew

/-- Settles O30: the three commands come to one retirement each. -/
theorem groupsRetire : Obligations.GroupsRetire := by
  intro i g s hg hjoin hmove hfinal hfloors hroom
  have hbound : Unbound s g := ⟨hjoin, hmove, hfinal, hfloors⟩
  refine ⟨fun t c f e h hwait => ?_, fun t e hwait hdue => ?_, fun t n gf hgf hn hstore hmode => ?_⟩
  · obtain ⟨g', hg', hbound', hw, hc, hp, hreturned, hlen⟩ := unbound_of_presence t h hbound
    have hexec : exec (.releaseAck t c f) s
        = .next (((s.tick t).presence i f.sender).releaseAckAct i).finish :=
      exec_member_plain (k := .releaseAck) t h (by simp) rfl (.inr rfl)
    have hacks : g'.releaseAcks = true := by simp [Group.releaseAcks, hw, hwait]
    have hact : ((s.tick t).presence i f.sender).releaseAckAct i
        = ((s.tick t).presence i f.sender).retire i .disbanded := by
      simp only [State.releaseAckAct, hg', hacks, if_true]
    obtain ⟨hslot, hothers, htable, hphase, hreqs⟩ :=
      retired_retire .disbanded hg' hbound' (by simpa [hlen] using hroom)
    rw [hact] at hexec
    refine ⟨_, hexec, hslot, fun j hj => ?_, ?_, ?_, ?_⟩
    · rw [hothers j hj, slot_presence_ne _ _ hj]
    · rw [htable, hreturned, hc]
      simp [Group.returned]
    · rw [← hc, ← hp]
      exact hphase
    · rw [← hc, ← hp]
      exact hreqs
  · have hexec : exec (.attachTimeout t i) s = .next ((s.tick t).attachExpiry i).finish := rfl
    have hwaitDue : ((s.tick t).group i).any (fun g => g.waitDue .attach (s.tick t).now) = true := by
      have : (s.tick t).group i = some g := hg
      rw [this]
      simp only [Option.any_some, Group.waitDue, hwait]
      exact decide_eq_true hdue
    rw [State.attachExpiry, if_pos hwaitDue] at hexec
    have hbound' : Unbound (s.tick t) g := ⟨hjoin, hmove, hfinal, hfloors⟩
    refine ⟨_, hexec, retired_retire .openFailed hg hbound' hroom, fun k hk => ?_⟩
    rw [retire_eq .openFailed (s := s.tick t) hg hbound' hroom, if_pos rfl, hk]
    exact pairings_holdPairing _ k
  · have hbound' : Unbound (s.begun t n) g := ⟨hjoin, hmove, hfinal, by simpa using hfloors⟩
    have houtcome : g.retireOutcome
        = if g.causes.locoLink = true ∧ g.causes.leaderLink = true then .crewOnly else .forced := by
      simp [Group.retireOutcome]
    have hnotFailed : (if g.causes.locoLink = true ∧ g.causes.leaderLink = true then SlotOutcome.crewOnly
        else .forced) ≠ .openFailed := by split <;> simp
    refine ⟨(s.begun t n).hostRetire i g, ?_, ?_, ?_⟩
    · rw [exec_taken (i := .retire t n gf) rfl hn hstore (judge_notInFallback hmode)]
      simp only [portBody, State.retireBody]
      rw [onGroup_named (namesGroup_begun.mpr hgf) (by simpa using hg) rfl, ← houtcome]
      rfl
    · rw [← houtcome] at hnotFailed ⊢
      obtain ⟨hslot, hothers, htable, hphase, hreqs⟩ :=
        retired_retire g.retireOutcome (s := s.begun t n) (by simpa using hg) hbound' (by simpa using hroom)
      have hchan : ((s.begun t n).hostRetire i g).chan g.channel
          = { ((s.begun t n).retire i g.retireOutcome).chan g.channel with
              reqs := reqsRaise { source := .channel, kind := .release, body := .retired g.call }
                (((s.begun t n).retire i g.retireOutcome).chan g.channel).reqs } := chan_modChan_self _ _ _
      refine ⟨hslot, hothers, ?_, ?_, fun r hr => ?_⟩
      · have : ((s.begun t n).hostRetire i g).table = ((s.begun t n).retire i g.retireOutcome).table := rfl
        rw [this, htable, Group.returned, if_neg hnotFailed]
      · rw [hchan]
        exact hphase
      · rw [hchan] at hr
        rcases mem_insertBy hr with rfl | hr
        · simp
        · exact hreqs r hr
    · exact isPending_raise_self ..

/-! ### The start of a release -/

@[simp] theorem talk_withdraw (s : State) (c d : Chan) (src : Source) (k : ReqKind) :
    ((s.withdraw c src k).chan d).talk = (s.chan d).talk := by
  rw [State.withdraw, chan_modChan]
  split
  · next h => rw [h]
  · rfl

@[simp] theorem talk_orphan (s : State) (i : SlotId) (p : Frame → Bool) (d : Chan) :
    ((s.orphan i p).chan d).talk = (s.chan d).talk := by rw [chan_orphan]

@[simp] theorem talk_dropOrder (s : State) (i : SlotId) (d : Chan) :
    ((s.dropOrder i).chan d).talk = (s.chan d).talk := by
  unfold State.dropOrder
  repeat' split
  all_goals simp

@[simp] theorem talk_dropApproach (s : State) (i : SlotId) (d : Chan) :
    ((s.dropApproach i).chan d).talk = (s.chan d).talk := by
  unfold State.dropApproach
  repeat' split
  all_goals simp

/-- R41: a record whose release has begun. -/
def releasing (g : Machine.Group) : Machine.Group :=
  { g with
    state := .releasing, order := none, approach := none, window := none, wait := some { kind := .release, expiry := none } }

/-- What the start of a release leaves of the group `g` of slot `i`. -/
structure Releasing (s u : State) (i : SlotId) (g : Machine.Group) : Prop where
  slot : u.slot i = { changed := true, body := .held (releasing g) }
  others : ∀ j, j ≠ i → u.slot j = s.slot j
  release : u.isPending g.channel (.phase g.phase) .release = true
  beat : u.isPending g.channel (.phase g.phase) .beat = false
  halt : u.isPending g.channel (.phase g.phase) .halt = false

theorem endOldChannel_none {s : State} {i : SlotId} {g : Machine.Group} (hg : s.group i = some g) (hm : g.move = none)
    (hf : g.finalHalt = none) : s.endOldChannel i = s := by simp only [State.endOldChannel, hg, hm, hf]

/-- The state of a starting release after its order, its approach record and its window are gone. -/
def disarmed (s : State) (i : SlotId) : State :=
  ((((s.modGroup i fun g => { g with state := .releasing }).mark i).dropOrder i).dropApproach i).modGroup i fun g =>
    { g with window := none }

theorem slot_disarmed {s : State} {i : SlotId} {g : Machine.Group} (hg : s.group i = some g) :
    (disarmed s i).slot i = { changed := true, body := .held { g with
      state := .releasing, order := none, approach := none, window := none } } := by
  have h0 : ((s.modGroup i fun g => { g with state := .releasing }).mark i).slot i
      = { changed := true, body := .held { g with state := .releasing } } := by
    rw [modGroup_eq _ hg, mark_setSlot, slot_setSlot_self]
  have h1 := slot_dropOrder (group_of_body (by rw [h0]))
  have h2 := slot_dropApproach (group_of_body (by rw [h1]))
  rw [disarmed, modGroup_eq _ (group_of_body (by rw [h2])), slot_setSlot_self, h2, h1, h0]

theorem slot_disarmed_ne (s : State) {i j : SlotId} (hj : j ≠ i) : (disarmed s i).slot j = s.slot j := by
  rw [disarmed, slot_modGroup_ne _ _ (Ne.symm hj), slot_dropApproach_ne _ hj, slot_dropOrder_ne _ hj,
    slot_mark_ne _ (Ne.symm hj), slot_modGroup_ne _ _ (Ne.symm hj)]

/-- R41: the start of a release with neither a join nor a second phase nor a floor to end. -/
theorem releasing_startRelease {s : State} {i : SlotId} {g : Machine.Group} (hg : s.group i = some g) (h : Unbound s g) :
    Releasing s (s.startRelease i) i g := by
  set v := (((disarmed s i).withdraw g.channel (.phase g.phase) .beat).withdraw g.channel (.phase g.phase) .halt).orphan i
    (fun f => f.isBeat || f.isOldHalt || f.isMove) with hv
  have hslot : v.slot i = { changed := true, body := .held { g with
      state := .releasing, order := none, approach := none, window := none } } := by
    rw [hv, slot_orphan, slot_withdraw, slot_withdraw, slot_disarmed hg]
  have hvg := group_of_body (congrArg Slot.body hslot)
  have hfloor : v.withdrawGroup channels g.radios = v :=
    withdrawGroup_self fun c _ f hf => h.floors c f (by simpa [hv, disarmed] using hf)
  have hstart : s.startRelease i
      = (v.setSlot i { changed := true, body := .held (releasing g) }).raise g.channel (.phase g.phase) .release
          .plain := by
    simp only [State.startRelease, hg]
    rw [show (((((s.modGroup i fun g => { g with state := .releasing }).mark i).dropOrder i).dropApproach i).modGroup i
        fun g => { g with window := none }) = disarmed s i from rfl, ← hv, cancelJoin_none false hvg h.join,
      endOldChannel_none hvg h.move h.finalHalt, hfloor, modGroup_eq _ hvg, hslot]
    rfl
  have hne : ∀ k : ReqKind, k ≠ .release → (s.startRelease i).isPending g.channel (.phase g.phase) k
      = v.isPending g.channel (.phase g.phase) k := fun k hk => by
    rw [hstart, isPending_raise_ne _ _ (by simp [Ne.symm hk]), isPending_setSlot]
  refine ⟨?_, fun j hj => ?_, ?_, ?_, ?_⟩
  · rw [hstart, slot_raise, slot_setSlot_self]
  · rw [hstart, slot_raise, slot_setSlot_ne _ _ (Ne.symm hj), hv, slot_orphan, slot_withdraw, slot_withdraw,
      slot_disarmed_ne s hj]
  · rw [hstart]
    exact isPending_raise_self ..
  · rw [hne _ (by simp), hv, isPending_orphan, isPending_withdraw_ne _ (by simp), isPending_withdraw_self]
  · rw [hne _ (by simp), hv, isPending_orphan, isPending_withdraw_self]

/-- Settles O31: the frame and the command come to one start of a release; the command else to REFUSED(STATE). -/
theorem disbandStartsRelease : Obligations.DisbandStartsRelease := by
  intro i g g1 s
  refine ⟨fun t c f h hg1 hok hjoin hmove hfinal hfloors => ?_,
    fun t n gf hgf hn hstore hmode hg hjoin hmove hfinal hfloors => ?_⟩
  · have hexec : exec (.disbandFrame t c f) s = .next (((s.tick t).presence i f.sender).disbandAct f i).finish :=
      exec_member_plain (k := .disband) t h (by simp) rfl (by simp)
    have hact : ((s.tick t).presence i f.sender).disbandAct f i = ((s.tick t).presence i f.sender).startRelease i := by
      simp only [State.disbandAct, hg1, hok, if_true]
    obtain ⟨hslot, hothers, hrelease, hbeat, hhalt⟩ :=
      releasing_startRelease hg1 ⟨hjoin, hmove, hfinal, by simpa using hfloors⟩
    rw [hact] at hexec
    refine ⟨_, hexec, group_of_body (congrArg Slot.body hslot), by rw [hslot], fun j hj => ?_, hrelease, hbeat, hhalt⟩
    rw [hothers j hj, slot_presence_ne _ _ hj, slot_tick]
  · have hexec : exec (.disband t n gf) s = .next ((if g.disbandable = true then
        Verdict.taken ((s.begun t n).startRelease i) false fun _ => .slot i
        else .refused .state .none).apply 10 (s.begun t n)) := by
      rw [exec_taken (i := .disband t n gf) rfl hn hstore (judge_notInFallback hmode)]
      simp only [portBody, State.disbandBody]
      rw [onGroup_named (namesGroup_begun.mpr hgf) (by simpa using hg) rfl]
    split
    · next hok =>
      obtain ⟨hslot, hothers, hrelease, hbeat, hhalt⟩ :=
        releasing_startRelease (s := s.begun t n) (by simpa using hg) ⟨hjoin, hmove, hfinal, by simpa using hfloors⟩
      rw [if_pos hok] at hexec
      refine ⟨_, hexec, group_of_body (congrArg Slot.body hslot), by rw [hslot], fun j hj => ?_, hrelease, hbeat, hhalt⟩
      rw [hothers j hj, slot_begun]
    · next hno =>
      rw [if_neg hno] at hexec
      exact hexec

end Sys2Proof.ReleaseProofs
end

section
/-!
The relations in which the invariants are carried through an operation. `Shift` and `Local` say that an operation touches one
slot's record and the queues of channels; `Calm` is what an operation keeps that may also pass floors and refresh levels, with
some slots and some floor holders left out of the account until the operation ends.
-/
namespace Sys2Proof.EvolveProofs
open Sys2Proof Sys2Proof.Machine Sys2Proof.Machine.Laws Sys2Proof.CommandProofs Sys2Proof.DeviceProofs
  Sys2Proof.PortProofs Sys2Proof.SlotProofs Sys2Proof.RecordProofs Sys2Proof.FrameProofs Sys2Proof.FloorProofs
  Sys2Proof.HaltProofs Sys2Proof.MemberProofs Sys2Proof.ReleaseProofs

/-! ### Channels: the queues and the rest -/

/-- The part of `Channel.Sound` that speaks of queues; a free floor has an empty one where `free` holds. -/
structure QueueSound (free : Prop) (ch : Channel) : Prop where
  requests : RequestsSound ch.reqs
  noticeCapacity : ch.notices.length ≤ 4
  queueCapacity : ch.talkQueue.length ≤ 4
  queueDistinct : ch.talkQueue.Nodup
  holderNotQueued : ∀ h, ch.talk = some h → h.radio ∉ ch.talkQueue
  freeFloor : free → ch.talk = none → ch.talkQueue = []

/-- The part of `Channel.Sound` that speaks of the mode and the survey. -/
structure CoreSound (ch : Channel) : Prop where
  liveEpoch : ch.epoch.isSome = (ch.mode == .live)
  surveyOff : ch.survey.state = .off ↔ ch.mode = .off ∨ ch.config.survey = false
  surveyError : ch.survey.error = (ch.survey.state == .error)
  surveyCycle : ch.survey.cycle ≤ 7

theorem channel_sound_iff {ch : Channel} : ch.Sound ↔ QueueSound True ch ∧ CoreSound ch :=
  ⟨fun ⟨a, b, c, d, e, f, g, h, i, j⟩ => ⟨⟨a, b, c, e, f, fun _ => d⟩, ⟨g, h, i, j⟩⟩,
    fun ⟨⟨a, b, c, e, f, d⟩, ⟨g, h, i, j⟩⟩ => ⟨a, b, c, d trivial, e, f, g, h, i, j⟩⟩

/-- A channel without its queues, its floor, its phases and what is on the air; the flag says whether a frame is. -/
def coreOf (ch : Channel) : Channel × Bool :=
  ({ ch with
      occupancy := Vector.replicate 8 none, reqs := [], inFlight := none, lastTxEnd := none, talk := none, talkQueue := [],
      notices := [] }, ch.inFlight.isSome)

theorem core_fields {a b : Channel} (h : coreOf a = coreOf b) :
    a.mode = b.mode ∧ a.ready = b.ready ∧ a.epoch = b.epoch ∧ a.cycleStart = b.cycleStart ∧ a.reached = b.reached
      ∧ a.period = b.period ∧ a.pendingPeriod = b.pendingPeriod ∧ a.config = b.config ∧ a.survey = b.survey
      ∧ a.inFlight.isSome = b.inFlight.isSome := by
  simp only [coreOf, Prod.mk.injEq, Channel.mk.injEq] at h
  tauto

theorem CoreSound.congr {a b : Channel} (h : coreOf a = coreOf b) (hb : CoreSound b) : CoreSound a := by
  obtain ⟨hmode, -, hepoch, -, -, -, -, hconfig, hsurvey, -⟩ := core_fields h
  obtain ⟨h1, h2, h3, h4⟩ := hb
  exact ⟨by rw [hepoch, hmode]; exact h1, by rw [hsurvey, hmode, hconfig]; exact h2, by rw [hsurvey]; exact h3,
    by rw [hsurvey]; exact h4⟩

/-- A change of a channel's queues that keeps them sound. -/
structure ChanStep (ch ch' : Channel) : Prop where
  core : coreOf ch' = coreOf ch
  queue : ∀ free, QueueSound free ch → QueueSound free ch'

theorem ChanStep.refl (ch : Channel) : ChanStep ch ch := ⟨rfl, fun _ h => h⟩

theorem ChanStep.trans {a b c : Channel} (h : ChanStep a b) (h' : ChanStep b c) : ChanStep a c :=
  ⟨h'.core.trans h.core, fun f hf => h'.queue f (h.queue f hf)⟩

/-- A change of the requests alone. -/
theorem ChanStep.reqs (ch : Channel) {l : List Request} (h : RequestsSound ch.reqs → RequestsSound l) :
    ChanStep ch { ch with reqs := l } :=
  ⟨rfl, fun _ hq => { hq with requests := h hq.requests }⟩

theorem ChanStep.notices (ch : Channel) {l : List ChannelNotice} (h : ch.notices.length ≤ 4 → l.length ≤ 4) :
    ChanStep ch { ch with notices := l } :=
  ⟨rfl, fun _ hq => { hq with noticeCapacity := h hq.noticeCapacity }⟩

/-- What is on the air, while a frame stays one, and the end of the last transmission. -/
theorem ChanStep.air (ch : Channel) {f : Option Frame} {e : Option Instant} (h : f.isSome = ch.inFlight.isSome) :
    ChanStep ch { ch with inFlight := f, lastTxEnd := e } :=
  ⟨by simp [coreOf, h], fun _ hq => ⟨hq.1, hq.2, hq.3, hq.4, hq.5, hq.6⟩⟩

theorem ChanStep.occupancy (ch : Channel) (v : Vector (Option SlotId) 8) : ChanStep ch { ch with occupancy := v } :=
  ⟨rfl, fun _ hq => ⟨hq.1, hq.2, hq.3, hq.4, hq.5, hq.6⟩⟩

/-! ### What is held apart from channels and slots -/

/-- The settings in force, the profile and a STORE in progress. -/
def valuesOf (s : State) : DeviceSettings × Profile × Option Profile := (s.device, s.profile, s.storing)

theorem device_of_values {s u : State} (h : valuesOf u = valuesOf s) : u.device = s.device := congrArg (·.1) h

/-! ### One slot -/

/-- A change of slot `i`'s record and of channels, the talk floors kept. -/
structure Shift (i : SlotId) (s u : State) : Prop where
  others : ∀ j, j ≠ i → u.group j = s.group j
  table : u.table = s.table
  values : valuesOf u = valuesOf s
  chans : ∀ c, ChanStep (s.chan c) (u.chan c)
  talk : ∀ c, (u.chan c).talk = (s.chan c).talk

theorem Shift.refl (i : SlotId) (s : State) : Shift i s s := ⟨fun _ _ => rfl, rfl, rfl, fun _ => .refl _, fun _ => rfl⟩

theorem Shift.trans {i : SlotId} {a b c : State} (h : Shift i a b) (h' : Shift i b c) : Shift i a c :=
  ⟨fun j hj => (h'.others j hj).trans (h.others j hj), h'.table.trans h.table, h'.values.trans h.values,
    fun d => (h.chans d).trans (h'.chans d), fun d => (h'.talk d).trans (h.talk d)⟩

/-- The same with the phases' occupancy kept. -/
structure Local (i : SlotId) (s u : State) : Prop extends Shift i s u where
  occupancy : ∀ c, (u.chan c).occupancy = (s.chan c).occupancy

theorem Local.refl (i : SlotId) (s : State) : Local i s s := ⟨.refl i s, fun _ => rfl⟩

theorem Local.trans {i : SlotId} {a b c : State} (h : Local i a b) (h' : Local i b c) : Local i a c :=
  ⟨h.toShift.trans h'.toShift, fun d => (h'.occupancy d).trans (h.occupancy d)⟩

/-- A write of one channel that keeps its floor. -/
theorem Shift.modChan (i : SlotId) (s : State) (c : Chan) (f : Channel → Channel)
    (hf : ChanStep (s.chan c) (f (s.chan c))) (ht : (f (s.chan c)).talk = (s.chan c).talk) :
    Shift i s (s.modChan c f) := by
  refine ⟨fun _ _ => rfl, rfl, rfl, fun d => ?_, fun d => ?_⟩
  · rw [chan_modChan]
    split
    · next h => exact h ▸ hf
    · exact .refl _
  · rw [chan_modChan]
    split
    · next h => exact h ▸ ht
    · rfl

theorem Local.modChan (i : SlotId) (s : State) (c : Chan) (f : Channel → Channel)
    (hf : ChanStep (s.chan c) (f (s.chan c))) (ht : (f (s.chan c)).talk = (s.chan c).talk)
    (ho : (f (s.chan c)).occupancy = (s.chan c).occupancy) : Local i s (s.modChan c f) := by
  refine ⟨.modChan i s c f hf ht, fun d => ?_⟩
  rw [chan_modChan]
  split
  · next h => exact h ▸ ho
  · rfl

theorem Local.raise (i : SlotId) (s : State) (c : Chan) (src : Source) (k : ReqKind) (b : ReqBody) :
    Local i s (s.raise c src k b) :=
  .modChan i s c _ (.reqs _ fun h => insertBy_sorted h) rfl rfl

theorem Local.withdraw (i : SlotId) (s : State) (c : Chan) (src : Source) (k : ReqKind) :
    Local i s (s.withdraw c src k) := .modChan i s c _ (.reqs _ fun h => reqsWithdraw_sorted h) rfl rfl

theorem Local.withdrawSource (i : SlotId) (s : State) (c : Chan) (src : Source) : Local i s (s.withdrawSource c src) :=
  .modChan i s c _ (.reqs _ fun h => h.filter _) rfl rfl

theorem Local.channelFrame (i : SlotId) (s : State) (c : Chan) (b : ChannelBody) (r : Radio) (call : Nat) :
    Local i s (s.channelFrame c b r call) := .modChan i s c _ (.notices _ fun _ => pushNotice_bound _ _) rfl rfl

theorem Local.orphanOn (i : SlotId) (s : State) (c : Chan) (j : SlotId) (p : Frame → Bool) :
    Local i s (s.orphanOn c j p) :=
  .modChan i s c _ (.air (s.chan c) (e := (s.chan c).lastTxEnd) (by simp [orphanIf])) rfl rfl

theorem Local.foldl {α : Type} {i : SlotId} {f : State → α → State} (h : ∀ s a, Local i s (f s a)) (l : List α)
    (s : State) : Local i s (l.foldl f s) := by
  induction l generalizing s with
  | nil => exact .refl i s
  | cons a l ih => exact (h s a).trans (ih _)

theorem Local.orphan (i : SlotId) (s : State) (j : SlotId) (p : Frame → Bool) : Local i s (s.orphan j p) :=
  .foldl (fun s c => .orphanOn i s c j p) channels s

theorem Shift.freePhase (i : SlotId) (s : State) (c : Chan) (p : Phase) : Shift i s (s.freePhase c p) := by
  have h := Shift.modChan i s c (fun ch => { ch with occupancy := ch.occupancy.set p none }) (.occupancy _ _) rfl
  exact ⟨h.others, h.table, h.values, h.chans, h.talk⟩

theorem Shift.takePhase (i : SlotId) (s : State) (c : Chan) (p : Phase) (j : SlotId) : Shift i s (s.takePhase c p j) :=
  .modChan i s c _ (.occupancy _ _) rfl

/-- A write of the slot itself. -/
theorem Local.setSlot (s : State) (i : SlotId) (v : Slot) : Local i s (s.setSlot i v) :=
  ⟨⟨fun _ hj => group_setSlot_ne s v (Ne.symm hj), rfl, rfl, fun _ => .refl _, fun _ => rfl⟩, fun _ => rfl⟩

theorem Local.modGroup (s : State) (i : SlotId) (f : Machine.Group → Machine.Group) : Local i s (s.modGroup i f) := by
  cases h : s.group i with
  | none => rw [modGroup_free f h]; exact .refl i s
  | some g => rw [modGroup_eq f h]; exact .setSlot s i _

theorem Local.mark (s : State) (i : SlotId) : Local i s (s.mark i) := .setSlot s i _

/-- A change of what no invariant but the settings speaks of. -/
theorem Local.of_eq (i : SlotId) {s u : State} (hs : u.slots = s.slots) (hc : u.chans = s.chans) (ht : u.table = s.table)
    (hv : valuesOf u = valuesOf s) : Local i s u :=
  ⟨⟨fun j _ => group_congr hs j, ht, hv, fun c => by rw [chan_congr hc]; exact .refl _, fun c => by rw [chan_congr hc]⟩,
    fun c => by rw [chan_congr hc]⟩

/-! ### Records -/

/-- A record keeps its phases and its pending join; it takes in no radio. -/
structure Keeps (g g' : Machine.Group) : Prop where
  channel : g'.channel = g.channel
  phase : g'.phase = g.phase
  move : g'.move.map (fun m => (m.oldChan, m.oldPhase)) = g.move.map fun m => (m.oldChan, m.oldPhase)
  finalHalt : g'.finalHalt = g.finalHalt
  radios : g'.radios.Subperm g.radios
  join : g'.join.map (·.radio) = g.join.map (·.radio)

/-- A record stays sound and in agreement with the warn threshold. -/
structure Fine (warn : Nat) (g g' : Machine.Group) : Prop where
  sound : g.Sound → g'.Sound
  warn : g.Sound → WarnOk warn g → WarnOk warn g'

/-- A record in service stays in service with all its radios. -/
def Serves (g g' : Machine.Group) : Prop := InService g → InService g' ∧ g.radios ⊆ g'.radios

theorem Keeps.refl (g : Machine.Group) : Keeps g g := ⟨rfl, rfl, rfl, rfl, .refl _, rfl⟩

theorem Keeps.trans {a b c : Machine.Group} (h : Keeps a b) (h' : Keeps b c) : Keeps a c :=
  ⟨h'.1.trans h.1, h'.2.trans h.2, h'.3.trans h.3, h'.4.trans h.4, h'.5.trans h.5, h'.6.trans h.6⟩

theorem Fine.refl (w : Nat) (g : Machine.Group) : Fine w g g := ⟨id, fun _ => id⟩

theorem Fine.trans {w : Nat} {a b c : Machine.Group} (h : Fine w a b) (h' : Fine w b c) : Fine w a c :=
  ⟨fun hs => h'.sound (h.sound hs), fun hs hw => h'.warn (h.sound hs) (h.warn hs hw)⟩

theorem Serves.refl (g : Machine.Group) : Serves g g := fun h => ⟨h, fun _ hr => hr⟩

theorem Serves.trans {a b c : Machine.Group} (h : Serves a b) (h' : Serves b c) : Serves a c := fun ha => by
  obtain ⟨hb, hab⟩ := h ha
  obtain ⟨hc, hbc⟩ := h' hb
  exact ⟨hc, fun r hr => hbc (hab hr)⟩

theorem holds_iff_of_keeps {g g' : Machine.Group} (h : Keeps g g') (c : Chan) (p : Phase) :
    g'.holds c p ↔ g.holds c p := by
  have hmove : (∃ m, g'.move = some m ∧ m.oldChan = c ∧ m.oldPhase = p)
      ↔ ∃ m, g.move = some m ∧ m.oldChan = c ∧ m.oldPhase = p := by
    have hplace : ∀ x : Option MoveRecord, (∃ m, x = some m ∧ m.oldChan = c ∧ m.oldPhase = p)
        ↔ x.map (fun m => (m.oldChan, m.oldPhase)) = some (c, p) := fun x => by
      cases x <;> simp
    rw [hplace, hplace, h.move]
  unfold Group.holds
  rw [h.channel, h.phase, h.finalHalt, hmove]

theorem move_none_of_keeps {g g' : Machine.Group} (h : Keeps g g') : g'.move = none ↔ g.move = none := by
  have := h.move
  cases hm : g.move <;> cases hm' : g'.move <;> simp_all

/-! ### Radios -/

/-- The radios of a slot's group. -/
def radiosAt (s : State) (i : SlotId) : List Radio := ((s.group i).map Group.radios).getD []

/-- The radio that a slot's pending join names. -/
def joinAt (s : State) (i : SlotId) : Option Radio := ((s.group i).bind (·.join)).map (·.radio)

theorem knownRadios_eq (s : State) : s.knownRadios = s.table.map (·.radio) ++ slotIds.flatMap (radiosAt s) := rfl

theorem subperm_flatMap {α β : Type} {f g : α → List β} {l : List α} (h : ∀ a ∈ l, (f a).Subperm (g a)) :
    (l.flatMap f).Subperm (l.flatMap g) := by
  induction l with
  | nil => exact .refl _
  | cons a l ih =>
    rw [List.flatMap_cons, List.flatMap_cons]
    exact (h a (by simp)).append (ih fun b hb => h b (List.mem_cons_of_mem _ hb))

theorem nodup_of_subperm {α : Type} {l l' : List α} (h : l.Subperm l') (hn : l'.Nodup) : l.Nodup := by
  obtain ⟨k, hperm, hsub⟩ := h
  exact hperm.nodup_iff.mp (hn.sublist hsub)

/-- R12: slots that take in no radio, and a table that stands. -/
theorem radiosSound_of_slots {s u : State} (ht : u.table = s.table) (hr : ∀ i, (radiosAt u i).Subperm (radiosAt s i))
    (hj : ∀ i, joinAt u i = joinAt s i) (h : s.RadiosSound) : u.RadiosSound := by
  obtain ⟨hone, hcap, hpin, hjoin⟩ := h
  refine ⟨?_, by rw [ht]; exact hcap, fun e he i hi => ?_, fun i r hi => ?_⟩
  · rw [knownRadios_eq] at hone ⊢
    rw [ht]
    exact nodup_of_subperm ((List.Subperm.refl _).append (subperm_flatMap fun i _ => hr i)) hone
  · exact (hj i).trans (hpin e (ht ▸ he) i hi)
  · have : u.entry r = s.entry r := by rw [State.entry, State.entry, ht]
    rw [this]
    exact hjoin i r ((hj i).symm.trans hi)

/-! ### Floors -/

theorem roleOf_isSome_iff {g : Machine.Group} {r : Radio} : (g.roleOf r).isSome = true ↔ r ∈ g.radios := by
  unfold Group.roleOf Group.radios
  by_cases h1 : g.loco.radio = r
  · simp [h1]
  · by_cases h2 : g.leader.radio = r
    · simp [h1, h2]
    · by_cases h3 : g.crew.any (fun m => m.radio == r) = true
      · have : ∃ m ∈ g.crew, m.radio = r := by simpa using h3
        simp [h1, h2, h3, this]
      · have : ¬ ∃ m ∈ g.crew, m.radio = r := by simpa using h3
        simp [h1, h2, h3, Ne.symm h1, Ne.symm h2, this]

/-- The first index at which a search succeeds. -/
theorem findSome_finRange_eq_some {n : Nat} {β : Type} {f : Fin n → Option β} {b : β} :
    (List.finRange n).findSome? f = some b ↔ ∃ i, f i = some b ∧ ∀ j, j < i → f j = none := by
  have hsorted := List.pairwise_lt_finRange n
  constructor
  · intro h
    obtain ⟨l₁, i, l₂, hl, hi, hbefore⟩ := List.findSome?_eq_some_iff.mp h
    refine ⟨i, hi, fun j hj => hbefore j ?_⟩
    have hmem : j ∈ l₁ ++ i :: l₂ := hl ▸ List.mem_finRange j
    rw [hl, List.pairwise_append] at hsorted
    rcases List.mem_append.mp hmem with h₁ | h₂
    · exact h₁
    · rcases List.mem_cons.mp h₂ with rfl | h₂
      · exact absurd hj (lt_irrefl _)
      · exact absurd (hj.trans ((List.pairwise_cons.mp hsorted.2.1).1 j h₂)) (lt_irrefl _)
  · rintro ⟨i, hi, hbefore⟩
    obtain ⟨l₁, l₂, hl⟩ := List.append_of_mem (List.mem_finRange i)
    refine List.findSome?_eq_some_iff.mpr ⟨l₁, i, l₂, hl, hi, fun j hj => hbefore j ?_⟩
    rw [hl, List.pairwise_append] at hsorted
    exact hsorted.2.2 j hj i (by simp)

/-- R144: eligibility, said of the lowest slot whose group has the radio. -/
theorem talkEligible_iff {s : State} {c : Chan} {r : Radio} :
    s.talkEligible c r = true ↔ ∃ i g, s.group i = some g ∧ r ∈ g.radios
      ∧ (∀ j, j < i → ∀ x, s.group j = some x → r ∉ x.radios) ∧ g.channel = c ∧ InService g ∧ g.move = none := by
  have hnone : ∀ j, ((s.group j).bind fun g => (g.roleOf r).map fun role => (j, role)) = none
      ↔ ∀ x, s.group j = some x → r ∉ x.radios := fun j => by
    cases hj : s.group j with
    | none => simp
    | some x =>
      have hrole : x.roleOf r = none ↔ r ∉ x.radios := by
        rw [← roleOf_isSome_iff]
        cases x.roleOf r <;> simp
      simp [hrole]
  constructor
  · intro h
    obtain ⟨i, role, g, hplace, hg, hrole, hc, hstate, hmove⟩ := talkEligible_spec h
    obtain ⟨k, hk, hbefore⟩ := findSome_finRange_eq_some.mp hplace
    have hki : k = i := by
      cases hgk : s.group k with
      | none => rw [hgk] at hk; cases hk
      | some x =>
        rw [hgk, Option.bind_some] at hk
        obtain ⟨_, -, hx⟩ := Option.map_eq_some_iff.mp hk
        exact congrArg Prod.fst hx
    subst hki
    exact ⟨k, g, hg, roleOf_isSome_iff.mp (by rw [hrole]; rfl), fun j hj => (hnone j).mp (hbefore j hj), hc, hstate, hmove⟩
  · rintro ⟨i, g, hg, hr, hbefore, hc, hservice, hmove⟩
    obtain ⟨role, hrole⟩ := Option.isSome_iff_exists.mp (roleOf_isSome_iff.mpr hr)
    have hplace : s.memberPlace r = some (i, role) :=
      findSome_finRange_eq_some.mpr ⟨i, by rw [hg]; simp [hrole], fun j hj => (hnone j).mpr (hbefore j hj)⟩
    unfold State.talkEligible
    rw [hplace]
    simp only [hg, hc, hmove]
    rcases hservice with h | h <;> simp [h]

/-- R144, R146: the floors, but for holders that `E` leaves out of the account. -/
def FloorsBut (E : Chan → Radio → Prop) (s : State) : Prop :=
  ∀ c h, (s.chan c).talk = some h → s.talkEligible c h.radio = true ∨ E c h.radio

theorem floorsSound_iff {s : State} : s.FloorsSound ↔ FloorsBut (fun _ _ => False) s := by
  simp [State.FloorsSound, FloorsBut]

theorem FloorsBut.mono {E E' : Chan → Radio → Prop} {s : State} (h : ∀ c r, E c r → E' c r) (hf : FloorsBut E s) :
    FloorsBut E' s := fun c x hx => (hf c x hx).imp id (h c x.radio)

/-- R144: how eligibility lasts: no slot takes in the radio, and its group goes on serving. -/
theorem talkEligible_lasts {s u : State} {c : Chan} {r : Radio}
    (hin : ∀ j y, u.group j = some y → r ∈ y.radios → ∃ x, s.group j = some x ∧ r ∈ x.radios)
    (hserve : ∀ j x, s.group j = some x → r ∈ x.radios → x.channel = c → InService x → x.move = none →
      ∃ y, u.group j = some y ∧ r ∈ y.radios ∧ y.channel = c ∧ InService y ∧ y.move = none)
    (h : s.talkEligible c r = true) : u.talkEligible c r = true := by
  obtain ⟨i, g, hg, hr, hbefore, hc, hservice, hmove⟩ := talkEligible_iff.mp h
  obtain ⟨g', hg', hr', hc', hservice', hmove'⟩ := hserve i g hg hr hc hservice hmove
  refine talkEligible_iff.mpr ⟨i, g', hg', hr', fun j hj x' hx' hrx => ?_, hc', hservice', hmove'⟩
  obtain ⟨x, hx, hmem⟩ := hin j x' hx' hrx
  exact hbefore j hj x hx hmem

/-! ### Phases -/

/-- R55: every group's own phase is occupied by its slot. -/
def OwnPhases (s : State) : Prop :=
  ∀ i g, s.group i = some g → (s.chan g.channel).occupancy.get g.phase = some i

theorem ownPhases_of_sound {s : State} (h : s.PhasesSound) : OwnPhases s := fun i g hg =>
  (h g.channel g.phase i).mpr ⟨g, hg, .inl ⟨rfl, rfl⟩⟩

/-- The phases that the records and the occupancies speak of stand. -/
structure Still (s u : State) : Prop where
  occupancy : ∀ c, (u.chan c).occupancy = (s.chan c).occupancy
  holds : ∀ i c p, (∃ g, u.group i = some g ∧ g.holds c p) ↔ ∃ g, s.group i = some g ∧ g.holds c p
  own : ∀ i g', u.group i = some g' → ∃ g, s.group i = some g ∧ g'.channel = g.channel ∧ g'.phase = g.phase

theorem Still.refl (s : State) : Still s s := ⟨fun _ => rfl, fun _ _ _ => Iff.rfl, fun _ g h => ⟨g, h, rfl, rfl⟩⟩

theorem Still.trans {a b c : State} (h : Still a b) (h' : Still b c) : Still a c := by
  refine ⟨fun d => (h'.occupancy d).trans (h.occupancy d), fun i d p => (h'.holds i d p).trans (h.holds i d p),
    fun i g hg => ?_⟩
  obtain ⟨g₁, hg₁, hc₁, hp₁⟩ := h'.own i g hg
  obtain ⟨g₂, hg₂, hc₂, hp₂⟩ := h.own i g₁ hg₁
  exact ⟨g₂, hg₂, hc₁.trans hc₂, hp₁.trans hp₂⟩

theorem Still.phasesSound {s u : State} (h : Still s u) (hp : s.PhasesSound) : u.PhasesSound := fun c p i => by
  rw [h.occupancy, h.holds]
  exact hp c p i

theorem Still.ownPhases {s u : State} (h : Still s u) (ho : OwnPhases s) : OwnPhases u := fun i g' hg' => by
  obtain ⟨g, hg, hc, hp⟩ := h.own i g' hg'
  rw [h.occupancy, hc, hp]
  exact ho i g hg

/-! ### Mild and calm -/

/-- What holds of one slot: its record stays sound and in agreement with the threshold. -/
structure SlotStep (warn : Nat) (a b : Option Machine.Group) : Prop where
  sound : (∀ g, a = some g → g.Sound) → ∀ g, b = some g → g.Sound
  warn : (∀ g, a = some g → g.Sound) → (∀ g, a = some g → WarnOk warn g) → ∀ g, b = some g → WarnOk warn g

theorem SlotStep.refl (w : Nat) (a : Option Machine.Group) : SlotStep w a a := ⟨fun h => h, fun _ h => h⟩

theorem SlotStep.trans {w : Nat} {a b c : Option Machine.Group} (h : SlotStep w a b) (h' : SlotStep w b c) :
    SlotStep w a c := ⟨fun hs => h'.sound (h.sound hs), fun hs hw => h'.warn (h.sound hs) (h.warn hs hw)⟩

theorem SlotStep.of_fine {w : Nat} {g g' : Machine.Group} (h : Fine w g g') : SlotStep w (some g) (some g') :=
  ⟨fun hs _ hx => Option.some.inj hx ▸ h.sound (hs g rfl),
    fun hs hw _ hx => Option.some.inj hx ▸ h.warn (hs g rfl) (hw g rfl)⟩

/-- What every operation below the level of phases keeps, the slots in `X` left out. -/
structure Base (X : SlotId → Prop) (s u : State) : Prop where
  values : valuesOf u = valuesOf s
  chans : ∀ c, ChanStep (s.chan c) (u.chan c)
  slots : ∀ i, ¬ X i → SlotStep s.device.warn (s.group i) (u.group i)
  radios : s.RadiosSound → u.RadiosSound

theorem Base.refl (X : SlotId → Prop) (s : State) : Base X s s := ⟨rfl, fun _ => .refl _, fun _ _ => .refl _ _, id⟩

theorem Base.trans {X : SlotId → Prop} {a b c : State} (h : Base X a b) (h' : Base X b c) : Base X a c :=
  ⟨h'.values.trans h.values, fun d => (h.chans d).trans (h'.chans d),
    fun i hi => (h.slots i hi).trans (device_of_values h.values ▸ h'.slots i hi), fun hr => h'.radios (h.radios hr)⟩

theorem Base.mono {X Y : SlotId → Prop} {s u : State} (hX : ∀ i, X i → Y i) (h : Base X s u) : Base Y s u :=
  ⟨h.values, h.chans, fun i hi => h.slots i fun hx => hi (hX i hx), h.radios⟩

/-- An operation after which the floors are as sound as before, the holders in `E` left out. -/
structure Mild (X : SlotId → Prop) (E : Chan → Radio → Prop) (s u : State) : Prop extends Base X s u where
  floors : FloorsBut E s → FloorsBut E u

theorem Mild.refl (X : SlotId → Prop) (E : Chan → Radio → Prop) (s : State) : Mild X E s s := ⟨.refl X s, id⟩

theorem Mild.trans {X : SlotId → Prop} {E : Chan → Radio → Prop} {a b c : State} (h : Mild X E a b) (h' : Mild X E b c) :
    Mild X E a c := ⟨h.toBase.trans h'.toBase, fun hf => h'.floors (h.floors hf)⟩

/-- An operation that also leaves the phases alone; it may need each group's own phase to find the floors it ends. -/
structure Calm (X : SlotId → Prop) (E : Chan → Radio → Prop) (s u : State) : Prop extends Base X s u where
  still : Still s u
  floors : OwnPhases s → FloorsBut E s → FloorsBut E u

theorem Calm.refl (X : SlotId → Prop) (E : Chan → Radio → Prop) (s : State) : Calm X E s s :=
  ⟨.refl X s, .refl s, fun _ => id⟩

theorem Calm.trans {X : SlotId → Prop} {E : Chan → Radio → Prop} {a b c : State} (h : Calm X E a b) (h' : Calm X E b c) :
    Calm X E a c :=
  ⟨h.toBase.trans h'.toBase, h.still.trans h'.still,
    fun ho hf => h'.floors (h.still.ownPhases ho) (h.floors ho hf)⟩

theorem Mild.calm {X : SlotId → Prop} {E : Chan → Radio → Prop} {s u : State} (h : Mild X E s u) (hs : Still s u) :
    Calm X E s u := ⟨h.toBase, hs, fun _ => h.floors⟩

/-- A slot left out of the account comes back into it where its record turned out well. -/
theorem Calm.settle {X : SlotId → Prop} {E : Chan → Radio → Prop} {s u : State} {i : SlotId}
    (h : Calm (fun j => X j ∨ j = i) E s u)
    (hi : ¬ X i → SlotStep s.device.warn (s.group i) (u.group i)) : Calm X E s u := by
  refine ⟨⟨h.values, h.chans, fun j hj => ?_, h.radios⟩, h.still, h.floors⟩
  by_cases hji : j = i
  · subst hji
    exact hi hj
  · exact h.slots j (by simp [hj, hji])

theorem Mild.foldl {α : Type} {X : SlotId → Prop} {E : Chan → Radio → Prop} {f : State → α → State}
    (h : ∀ s a, Mild X E s (f s a)) (l : List α) (s : State) : Mild X E s (l.foldl f s) := by
  induction l generalizing s with
  | nil => exact .refl X E s
  | cons a l ih => exact (h s a).trans (ih _)

theorem Calm.foldl {α : Type} {X : SlotId → Prop} {E : Chan → Radio → Prop} {f : State → α → State}
    (h : ∀ s a, Calm X E s (f s a)) (l : List α) (s : State) : Calm X E s (l.foldl f s) := by
  induction l generalizing s with
  | nil => exact .refl X E s
  | cons a l ih => exact (h s a).trans (ih _)

/-! ### From one slot to the whole state -/

theorem Local.still {i : SlotId} {s u : State} (h : Local i s u) {g g' : Machine.Group} (hg : s.group i = some g)
    (hg' : u.group i = some g') (hk : Keeps g g') : Still s u := by
  refine ⟨h.occupancy, fun j c p => ?_, fun j x hx => ?_⟩
  · by_cases hj : j = i
    · subst hj
      rw [hg, hg']
      simp [holds_iff_of_keeps hk]
    · rw [h.others j hj]
  · by_cases hj : j = i
    · subst hj
      rw [hg'] at hx
      cases hx
      exact ⟨g, hg, hk.channel, hk.phase⟩
    · exact ⟨x, h.others j hj ▸ hx, rfl, rfl⟩

/-- R144: what the new record `g'` owes each radio of `g` that may hold a floor. -/
def Owes (E : Chan → Radio → Prop) (g g' : Machine.Group) : Prop :=
  ∀ r ∈ g.radios, (InService g → g.move = none →
    g'.channel = g.channel ∧ InService g' ∧ g'.move = none ∧ r ∈ g'.radios) ∨ E g.channel r

theorem Shift.floors {i : SlotId} {E : Chan → Radio → Prop} {s u : State} (h : Shift i s u) {g g' : Machine.Group}
    (hg : s.group i = some g) (hg' : u.group i = some g') (hr : g'.radios ⊆ g.radios) (hs : Owes E g g')
    (hf : FloorsBut E s) : FloorsBut E u := by
  intro c x hx
  rw [h.talk] at hx
  rcases hf c x hx with helig | hE
  · obtain ⟨k, gk, hgk, hrk, hbefore, hck, hsk, hmk⟩ := talkEligible_iff.mp helig
    have hbefore' : ∀ j, j < k → ∀ y, u.group j = some y → x.radio ∉ y.radios := fun j hj y hy hry => by
      by_cases hji : j = i
      · subst hji
        rw [hg'] at hy
        cases hy
        exact hbefore j hj g hg (hr hry)
      · exact hbefore j hj y (h.others j hji ▸ hy) hry
    by_cases hki : k = i
    · subst hki
      rw [hg] at hgk
      cases hgk
      rcases hs x.radio hrk with hserves | hmine
      · obtain ⟨hc', hsv', hmv', hmem⟩ := hserves hsk hmk
        exact .inl (talkEligible_iff.mpr ⟨k, g', hg', hmem, hbefore', hc'.trans hck, hsv', hmv'⟩)
      · exact .inr (hck ▸ hmine)
    · exact .inl (talkEligible_iff.mpr ⟨k, gk, by rw [h.others k hki]; exact hgk, hrk, hbefore', hck, hsk, hmk⟩)
  · exact .inr hE

theorem Owes.of_serves {E : Chan → Radio → Prop} {g g' : Machine.Group} (hk : Keeps g g') (h : Serves g g') :
    Owes E g g' := fun _ hr => .inl fun hsv hmv =>
  ⟨hk.channel, (h hsv).1, (move_none_of_keeps hk).mpr hmv, (h hsv).2 hr⟩

theorem Owes.of_exempt {E : Chan → Radio → Prop} {g g' : Machine.Group} (h : ∀ r ∈ g.radios, E g.channel r) :
    Owes E g g' := fun r hr => .inr (h r hr)

/-- R144: nothing is owed by a group out of service or on the move. -/
theorem Owes.of_idle {E : Chan → Radio → Prop} {g g' : Machine.Group} (h : ¬ (InService g ∧ g.move = none)) :
    Owes E g g' := fun _ _ => .inl fun hsv hmv => absurd ⟨hsv, hmv⟩ h

/-- R12: one slot whose group takes in no radio. -/
theorem Shift.radios {i : SlotId} {s u : State} (h : Shift i s u) {g g' : Machine.Group} (hg : s.group i = some g)
    (hg' : u.group i = some g') (hr : g'.radios.Subperm g.radios)
    (hj : g'.join.map (·.radio) = g.join.map (·.radio)) : s.RadiosSound → u.RadiosSound := by
  refine radiosSound_of_slots h.table (fun j => ?_) fun j => ?_
  · by_cases hji : j = i
    · subst hji
      simpa [radiosAt, hg, hg'] using hr
    · rw [radiosAt, radiosAt, h.others j hji]
  · by_cases hji : j = i
    · subst hji
      simpa [joinAt, hg, hg'] using hj
    · rw [joinAt, joinAt, h.others j hji]

theorem Shift.slots {i : SlotId} {X : SlotId → Prop} {s u : State} (h : Shift i s u) {g g' : Machine.Group}
    (hg : s.group i = some g) (hg' : u.group i = some g') (hf : ¬ X i → Fine s.device.warn g g') (j : SlotId)
    (hj : ¬ X j) : SlotStep s.device.warn (s.group j) (u.group j) := by
  by_cases hji : j = i
  · subst hji
    rw [hg, hg']
    exact .of_fine (hf hj)
  · rw [h.others j hji]
    exact .refl _ _

/-- A change of one record that keeps its radios is mild. -/
theorem Shift.mild {i : SlotId} {X : SlotId → Prop} {E : Chan → Radio → Prop} {s u : State} (h : Shift i s u)
    {g g' : Machine.Group} (hg : s.group i = some g) (hg' : u.group i = some g') (hr : g'.radios.Subperm g.radios)
    (hj : g'.join.map (·.radio) = g.join.map (·.radio)) (hf : ¬ X i → Fine s.device.warn g g') (hs : Owes E g g') :
    Mild X E s u :=
  ⟨⟨h.values, h.chans, h.slots hg hg' hf, h.radios hg hg' hr hj⟩, h.floors hg hg' hr.subset hs⟩

/-- A change of one record that keeps its phases and its radios. -/
theorem Local.mild {i : SlotId} {X : SlotId → Prop} {E : Chan → Radio → Prop} {s u : State} (h : Local i s u)
    {g g' : Machine.Group} (hg : s.group i = some g) (hg' : u.group i = some g') (hk : Keeps g g')
    (hf : ¬ X i → Fine s.device.warn g g') (hs : Owes E g g') : Mild X E s u :=
  h.toShift.mild hg hg' hk.radios hk.join hf hs

theorem Local.calm {i : SlotId} {X : SlotId → Prop} {E : Chan → Radio → Prop} {s u : State} (h : Local i s u)
    {g g' : Machine.Group} (hg : s.group i = some g) (hg' : u.group i = some g') (hk : Keeps g g')
    (hf : ¬ X i → Fine s.device.warn g g') (hs : Owes E g g') : Calm X E s u :=
  (h.mild hg hg' hk hf hs).calm (h.still hg hg' hk)

/-- A change that touches no record. -/
theorem Local.mild_of_groups {i : SlotId} {X : SlotId → Prop} {E : Chan → Radio → Prop} {s u : State} (h : Local i s u)
    (hg : u.group i = s.group i) : Mild X E s u := by
  have hall : ∀ j, u.group j = s.group j := fun j => by
    by_cases hj : j = i
    · rw [hj, hg]
    · exact h.others j hj
  refine ⟨⟨h.values, h.chans, fun j _ => by rw [hall]; exact .refl _ _, radiosSound_of_slots h.table
    (fun j => by rw [radiosAt, radiosAt, hall]) fun j => by rw [joinAt, joinAt, hall]⟩, fun hf c x hx => ?_⟩
  rw [h.talk] at hx
  refine (hf c x hx).imp (talkEligible_lasts (fun j y hy hry => ⟨y, hall j ▸ hy, hry⟩)
    fun j y hy hry hc hsv hmv => ⟨y, by rw [hall]; exact hy, hry, hc, hsv, hmv⟩) id

theorem Local.calm_of_groups {i : SlotId} {X : SlotId → Prop} {E : Chan → Radio → Prop} {s u : State} (h : Local i s u)
    (hg : u.group i = s.group i) : Calm X E s u := by
  refine (h.mild_of_groups hg).calm ⟨h.occupancy, fun j c p => ?_, fun j x hx => ⟨x, ?_, rfl, rfl⟩⟩
  · by_cases hj : j = i
    · rw [hj, hg]
    · rw [h.others j hj]
  · by_cases hj : j = i
    · rw [hj, ← hg, ← hj]; exact hx
    · exact h.others j hj ▸ hx

end Sys2Proof.EvolveProofs
end

section
/-!
The operations that leave the phases alone, each shown calm: notices, levels, causes, floors, orders, approach records,
pending joins, the entry into HALT and the loss of a crew member.
-/
namespace Sys2Proof.CalmProofs
open Sys2Proof Sys2Proof.Machine Sys2Proof.Machine.Laws Sys2Proof.CommandProofs Sys2Proof.DeviceProofs
  Sys2Proof.PortProofs Sys2Proof.SlotProofs Sys2Proof.RecordProofs Sys2Proof.FrameProofs Sys2Proof.FloorProofs
  Sys2Proof.HaltProofs Sys2Proof.MemberProofs Sys2Proof.ReleaseProofs Sys2Proof.EvolveProofs

/-! ### Records that change tamely -/

/-- A record keeps its phases, its join and its radios, stays sound and serves on. -/
structure Tame (warn : Nat) (g g' : Machine.Group) : Prop where
  keeps : Keeps g g'
  fine : Fine warn g g'
  serves : Serves g g'

theorem Tame.refl (w : Nat) (g : Machine.Group) : Tame w g g := ⟨.refl g, .refl w g, .refl g⟩

theorem Tame.trans {w : Nat} {a b c : Machine.Group} (h : Tame w a b) (h' : Tame w b c) : Tame w a c :=
  ⟨h.keeps.trans h'.keeps, h.fine.trans h'.fine, h.serves.trans h'.serves⟩

theorem warnOk_congr {w : Nat} {g g' : Machine.Group} (hs : g'.state = g.state) (hl : g'.loco.level = g.loco.level)
    (hd : g'.leader.level = g.leader.level) (h : WarnOk w g) : WarnOk w g' := by
  unfold WarnOk Group.warned at h ⊢
  rw [hs, hl, hd]
  exact h

/-- A change that leaves state, levels and radios alone is tame where it keeps the record sound. -/
theorem Tame.plain {w : Nat} {g g' : Machine.Group} (hk : Keeps g g') (hr : g'.radios = g.radios)
    (hs : g'.state = g.state) (hl : g'.loco.level = g.loco.level) (hd : g'.leader.level = g.leader.level)
    (h : g.Sound → g'.Sound) : Tame w g g' :=
  ⟨hk, ⟨h, fun _ => warnOk_congr hs hl hd⟩, fun hv => ⟨(inService_congr hs).mpr hv, fun _ hm => hr ▸ hm⟩⟩

theorem keeps_rfl {g g' : Machine.Group} (hc : g'.channel = g.channel) (hp : g'.phase = g.phase) (hm : g'.move = g.move)
    (hf : g'.finalHalt = g.finalHalt) (hr : g'.radios = g.radios) (hj : g'.join = g.join) : Keeps g g' :=
  ⟨hc, hp, by rw [hm], hf, by rw [hr], by rw [hj]⟩

theorem sound_noticed {g : Machine.Group} (n : Notice) (d : NoticeTo) (h : g.Sound) : (noticed g n d).Sound := by
  obtain ⟨h1, h2, h3, h4, h5, h6, h7, hl, hd, hcrew, hlen, hpos, hptr, hdrop, -⟩ := h
  exact ⟨h1, h2, h3, h4, h5, h6, h7, hl, hd, hcrew, hlen, hpos, hptr, hdrop, pushNotice_bound _ _⟩

theorem tame_noticed (w : Nat) (g : Machine.Group) (n : Notice) (d : NoticeTo) : Tame w g (noticed g n d) :=
  .plain (keeps_rfl rfl rfl rfl rfl rfl rfl) rfl rfl rfl rfl (sound_noticed n d)

theorem stopUnconfirmed_del {cs : Causes} {c : Cause} (hc : c ≠ .stopUnconfirmed) :
    (cs.del c).stopUnconfirmed = cs.stopUnconfirmed := by cases c <;> first | rfl | exact absurd rfl hc

theorem sound_del {g : Machine.Group} {c : Cause} (hc : c ≠ .stopUnconfirmed) (h : g.Sound) :
    ({ g with causes := g.causes.del c } : Machine.Group).Sound :=
  { h with
    causes := fun hs => by
      show g.causes.del c = {}
      rw [h.causes hs, del_empty]
    stop := h.stop.trans (stopUnconfirmed_del hc).symm }

theorem tame_del (w : Nat) (g : Machine.Group) {c : Cause} (hc : c ≠ .stopUnconfirmed) :
    Tame w g { g with causes := g.causes.del c } :=
  .plain (keeps_rfl rfl rfl rfl rfl rfl rfl) rfl rfl rfl rfl (sound_del hc)

/-- R71, R72: a record that moves between ACTIVE and DEGRADED. -/
theorem sound_turn {g : Machine.Group} {st : GroupState} (hg : InService g) (hst : st = .active ∨ st = .degraded)
    (h : g.Sound) : ({ g with state := st } : Machine.Group).Sound := by
  have henters : g.state.entersHalt = true := entersHalt_of_inService hg
  have hwait : g.wait = none := by
    have := h.wait
    unfold Group.WaitSound at this
    rcases hg with hg | hg <;> simpa [hg] using this
  exact { h with
    causes := fun _ => h.causes henters
    order := fun ho => ⟨hst, (h.order ho).2⟩
    approach := fun _ => hst
    wait := by rcases hst with rfl | rfl <;> simpa [Group.WaitSound] using hwait
    join := fun hj => ⟨hst, (h.join hj).2⟩
    move := ⟨fun m hm => ⟨by rcases hst with rfl | rfl <;> simp, (h.move.1 m hm).2⟩, h.move.2⟩ }

theorem tame_judged (w : Nat) (g : Machine.Group) : Tame w g (judged w g) := by
  have hturn : ∀ st n, InService g → (st = .active ∨ st = .degraded) → (WarnOk w (noticed { g with state := st } n .leader))
      → Tame w g (noticed { g with state := st } n .leader) := fun st n hg hst hw =>
    ⟨keeps_rfl rfl rfl rfl rfl rfl rfl, ⟨fun h => sound_noticed _ _ (sound_turn hg hst h), fun _ _ => hw⟩,
      fun _ => ⟨hst, fun _ hr => hr⟩⟩
  have hw := warnOk_judged w g
  unfold judged at hw ⊢
  split
  · next h =>
    rw [if_pos h] at hw
    exact hturn _ _ (.inl h.1) (.inr rfl) hw
  · next h =>
    rw [if_neg h] at hw
    split
    · next h' =>
      rw [if_pos h'] at hw
      exact hturn _ _ (.inr h'.1) (.inl rfl) hw
    · exact .refl w g

theorem tame_answered (w : Nat) (g : Machine.Group) (r : Radio) : Tame w g (g.answered r) := by
  rw [answered_eq]
  exact .plain (keeps_rfl rfl rfl rfl rfl rfl rfl) rfl rfl rfl rfl fun h => ⟨h.1, h.2, h.3, h.4, h.5, h.6, h.7, h.8⟩

theorem setLevel_sound {g : Machine.Group} (r : Radio) {n : Nat} (hn : n ≤ 7) (role : Role) (h : g.Sound) :
    (g.setLevel r n role).Sound := by
  obtain ⟨h1, h2, h3, h4, h5, h6, h7, hl, hd, hcrew, hlen, hpos, hptr, hdrop, hq⟩ := h
  cases role with
  | loco => exact ⟨h1, h2, h3, h4, h5, h6, h7, hn, hd, hcrew, hlen, hpos, hptr, hdrop, hq⟩
  | leader => exact ⟨h1, h2, h3, h4, h5, h6, h7, hl, hn, hcrew, hlen, hpos, hptr, hdrop, hq⟩
  | crew =>
    have hmap : (g.setLevel r n .crew).crew.length = g.crew.length := by simp [Group.setLevel]
    refine ⟨h1, h2, h3, h4, h5, fun hj => ⟨(h6 hj).1, hmap ▸ (h6 hj).2⟩, h7, hl, hd, fun m hm => ?_,
      hmap ▸ hlen, hpos, fun k hk => hmap ▸ hptr k hk, hdrop, hq⟩
    obtain ⟨x, hx, rfl⟩ := List.mem_map.mp hm
    split
    · exact hn
    · exact hcrew x hx

theorem radios_eq_of {g g' : Machine.Group} (hl : g'.loco.radio = g.loco.radio) (hd : g'.leader.radio = g.leader.radio)
    (hc : g'.crew.map (·.radio) = g.crew.map (·.radio)) : g'.radios = g.radios := by
  rw [Group.radios, Group.radios, hl, hd, hc]

theorem setLevel_keeps (g : Machine.Group) (r : Radio) (n : Nat) (role : Role) :
    Keeps g (g.setLevel r n role) ∧ (g.setLevel r n role).radios = g.radios ∧ (g.setLevel r n role).state = g.state := by
  obtain ⟨hl, hd, hc⟩ := setLevel_radios g r n role
  have hr := radios_eq_of hl hd hc
  cases role with
  | loco => exact ⟨keeps_rfl rfl rfl rfl rfl hr rfl, hr, rfl⟩
  | leader => exact ⟨keeps_rfl rfl rfl rfl rfl hr rfl, hr, rfl⟩
  | crew => exact ⟨keeps_rfl rfl rfl rfl rfl hr rfl, hr, rfl⟩

/-- R68, R70 to R72: a new level and its judgement. -/
theorem tame_judged_setLevel (w : Nat) (g : Machine.Group) (r : Radio) {n : Nat} (hn : n ≤ 7) (role : Role) :
    Tame w g (judged w (g.setLevel r n role)) := by
  obtain ⟨hk, hr, hs⟩ := setLevel_keeps g r n role
  have hj := tame_judged w (g.setLevel r n role)
  exact ⟨hk.trans hj.keeps, ⟨fun h => hj.fine.sound (setLevel_sound r hn role h), fun _ _ => warnOk_judged w _⟩,
    fun hv => by
      obtain ⟨hv', hsub⟩ := hj.serves ((inService_congr hs).mpr hv)
      exact ⟨hv', fun x hx => hsub (hr ▸ hx)⟩⟩

theorem tame_refreshed (w : Nat) (g : Machine.Group) (r : Radio) (role : Role) : Tame w g (refreshed w g r role) := by
  have hcause : ∀ c, role.linkCause = some c → c ≠ .stopUnconfirmed := by cases role <;> simp [Role.linkCause]
  unfold refreshed leveled
  cases hc : role.linkCause with
  | none => exact tame_judged_setLevel w g r (le_refl 7) role
  | some c =>
    have hd := tame_del w g (hcause c hc)
    have hcomm : ({ g.setLevel r 7 role with causes := g.causes.del c } : Machine.Group)
        = ({ g with causes := g.causes.del c } : Machine.Group).setLevel r 7 role := by cases role <;> rfl
    dsimp only
    rw [hcomm]
    exact hd.trans (tame_judged_setLevel w _ r (le_refl 7) role)

/-! ### One slot's operations -/

variable {X : SlotId → Prop} {E : Chan → Radio → Prop}

theorem mild_of_tame {i : SlotId} {s u : State} (h : Local i s u) {g g' : Machine.Group} (hg : s.group i = some g)
    (hg' : u.group i = some g') (ht : Tame s.device.warn g g') : Mild X E s u :=
  h.mild hg hg' ht.keeps (fun _ => ht.fine) (.of_serves ht.keeps ht.serves)

theorem calm_of_tame {i : SlotId} {s u : State} (h : Local i s u) {g g' : Machine.Group} (hg : s.group i = some g)
    (hg' : u.group i = some g') (ht : Tame s.device.warn g g') : Calm X E s u :=
  h.calm hg hg' ht.keeps (fun _ => ht.fine) (.of_serves ht.keeps ht.serves)

theorem calm_setSlot {s : State} {i : SlotId} {g g' : Machine.Group} (b : Bool) (hg : s.group i = some g)
    (ht : Tame s.device.warn g g') : Calm X E s (s.setSlot i { changed := b, body := .held g' }) :=
  calm_of_tame (.setSlot s i _) hg (group_setSlot_held ..) ht

theorem calm_modGroup (s : State) (i : SlotId) (f : Machine.Group → Machine.Group)
    (h : ∀ g, s.group i = some g → Tame s.device.warn g (f g)) : Calm X E s (s.modGroup i f) := by
  cases hg : s.group i with
  | none => rw [modGroup_free f hg]; exact .refl X E s
  | some g => rw [modGroup_eq f hg]; exact calm_setSlot _ hg (h g hg)

theorem calm_groupNotice (s : State) (i : SlotId) (n : Notice) (d : NoticeTo) : Calm X E s (s.groupNotice i n d) :=
  calm_modGroup s i _ fun g _ => tame_noticed _ g n d

theorem calm_toLeader (s : State) (i : SlotId) (n : Notice) : Calm X E s (s.toLeader i n) := calm_groupNotice s i n _

theorem calm_toRadio (s : State) (i : SlotId) (r : Radio) (n : Notice) : Calm X E s (s.toRadio i r n) :=
  calm_groupNotice s i n _

theorem calm_mark (s : State) (i : SlotId) : Calm X E s (s.mark i) :=
  (Local.mark s i).calm_of_groups (group_mark s i i)

theorem calm_raise (s : State) (c : Chan) (src : Source) (k : ReqKind) (b : ReqBody) : Calm X E s (s.raise c src k b) :=
  (Local.raise 0 s c src k b).calm_of_groups rfl

theorem calm_withdraw (s : State) (c : Chan) (src : Source) (k : ReqKind) : Calm X E s (s.withdraw c src k) :=
  (Local.withdraw 0 s c src k).calm_of_groups rfl

theorem calm_channelFrame (s : State) (c : Chan) (b : ChannelBody) (r : Radio) (call : Nat) :
    Calm X E s (s.channelFrame c b r call) := (Local.channelFrame 0 s c b r call).calm_of_groups rfl

theorem calm_orphan (s : State) (i : SlotId) (p : Frame → Bool) : Calm X E s (s.orphan i p) :=
  (Local.orphan i s i p).calm_of_groups (group_orphan s i i p)

theorem calm_removeCause (s : State) (i : SlotId) {c : Cause} (hc : c ≠ .stopUnconfirmed) :
    Calm X E s (s.removeCause i c) := by
  cases hg : s.group i with
  | none => rw [State.removeCause, hg]; exact .refl X E s
  | some g => rw [removeCause_eq c hg]; exact calm_setSlot _ hg (tame_del _ g hc)

theorem calm_judgeWarn (s : State) (i : SlotId) : Calm X E s (s.judgeWarn i) := by
  cases hg : s.group i with
  | none => rw [judgeWarn_free hg]; exact .refl X E s
  | some g => rw [judgeWarn_eq hg]; exact calm_setSlot _ hg (tame_judged _ g)

theorem calm_refresh (s : State) (i : SlotId) (r : Radio) : Calm X E s (s.refresh i r) := by
  cases hg : s.group i with
  | none => rw [refresh_free r hg]; exact .refl X E s
  | some g =>
    cases hr : g.roleOf r with
    | none => rw [refresh_stranger hg hr]; exact .refl X E s
    | some role => rw [refresh_eq hg hr]; exact calm_setSlot _ hg (tame_refreshed _ g r role)

theorem calm_presence (s : State) (i : SlotId) (r : Radio) : Calm X E s (s.presence i r) :=
  (calm_modGroup s i _ fun g _ => tame_answered _ g r).trans (calm_refresh _ i r)

/-- R67: a refresh leaves the floors as they are, whatever the phases. -/
theorem mild_refresh (s : State) (i : SlotId) (r : Radio) : Mild X E s (s.refresh i r) := by
  cases hg : s.group i with
  | none => rw [refresh_free r hg]; exact .refl X E s
  | some g =>
    cases hr : g.roleOf r with
    | none => rw [refresh_stranger hg hr]; exact .refl X E s
    | some role =>
      rw [refresh_eq hg hr]
      exact mild_of_tame (.setSlot s i _) hg (group_setSlot_held ..) (tame_refreshed _ g r role)

/-! ### Floors -/

theorem chanStep_freed (ch : Channel) (r : Radio) (now : Instant) : ChanStep ch (ch.freed r now) :=
  ⟨rfl, fun _ h => ⟨insertBy_sorted (reqsWithdraw_sorted h.requests), h.noticeCapacity, by simp [Channel.freed],
    by simp [Channel.freed], by simp [Channel.freed], fun _ _ => rfl⟩⟩

theorem chanStep_passed {ch : Channel} {q₁ q₂ : List Radio} {x : Radio} (r : Radio) (now : Instant)
    (hq : ch.talkQueue = q₁ ++ x :: q₂) : ChanStep ch (ch.passed r x q₂ now) := by
  refine ⟨rfl, fun _ h => ?_⟩
  obtain ⟨hreqs, hnotices, hcap, hdistinct, -, -⟩ := h
  rw [hq] at hcap hdistinct
  have htail : (x :: q₂).Nodup := (List.nodup_append.mp hdistinct).2.1
  refine ⟨insertBy_sorted (insertBy_sorted (reqsWithdraw_sorted hreqs)), hnotices, ?_, (List.nodup_cons.mp htail).2,
    fun h hh => ?_, fun _ hn => by cases hn⟩
  · simp only [List.length_append, List.length_cons] at hcap
    simp only [Channel.passed]
    omega
  · cases hh
    exact (List.nodup_cons.mp htail).1

/-- A write of one channel after which its holder is the old one, an eligible one, or one in `E`. -/
theorem mild_setChan {s : State} {c : Chan} {v : Channel} (hv : ChanStep (s.chan c) v)
    (ht : ∀ h, v.talk = some h → (∃ h', (s.chan c).talk = some h' ∧ h'.radio = h.radio)
      ∨ s.talkEligible c h.radio = true ∨ E c h.radio) : Mild X E s (s.setChan c v) := by
  refine ⟨⟨rfl, fun d => ?_, fun _ _ => .refl _ _, radiosSound_of_slots rfl (fun _ => .refl _) fun _ => rfl⟩,
    fun hf d h hh => ?_⟩
  · rw [chan_setChan]
    split
    · next hd => exact hd ▸ hv
    · exact .refl _
  · rw [talkEligible_setChan]
    rw [chan_setChan] at hh
    split at hh
    · next hd =>
      subst hd
      rcases ht h hh with ⟨h', hh', hr⟩ | hnew
      · exact hr ▸ hf c h' hh'
      · exact hnew
    · exact hf d h hh

theorem still_setChan (s : State) (c : Chan) (v : Channel) (ho : v.occupancy = (s.chan c).occupancy) :
    Still s (s.setChan c v) := by
  refine ⟨fun d => ?_, fun _ _ _ => Iff.rfl, fun _ g h => ⟨g, h, rfl, rfl⟩⟩
  rw [chan_setChan]
  split
  · next h => exact h ▸ ho
  · rfl

theorem still_refresh (s : State) (i : SlotId) (r : Radio) : Still s (s.refresh i r) :=
  (calm_refresh (X := fun _ => False) (E := fun _ _ => False) s i r).still

theorem talkEligible_refresh {s : State} {c : Chan} {r : Radio} (j : SlotId) (x : Radio)
    (h : s.talkEligible c r = true) : (s.refresh j x).talkEligible c r = true := by
  have hlocal : Local j s (s.refresh j x) := by rw [refresh_eq_setSlot]; exact .setSlot s j _
  cases hg : s.group j with
  | none => rw [refresh_free x hg]; exact h
  | some g =>
    cases hr : g.roleOf x with
    | none => rw [refresh_stranger hg hr]; exact h
    | some role =>
      obtain ⟨g', hg', ht⟩ : ∃ g', (s.refresh j x).group j = some g' ∧ Tame s.device.warn g g' :=
        ⟨_, by rw [refresh_eq hg hr, group_setSlot_held], tame_refreshed _ g x role⟩
      refine talkEligible_lasts (fun k y hy hry => ?_) (fun k y hy hry hc hsv hmv => ?_) h
      · by_cases hk : k = j
        · subst hk
          rw [hg'] at hy
          cases hy
          exact ⟨g, hg, ht.keeps.radios.subset hry⟩
        · exact ⟨y, hlocal.others k hk ▸ hy, hry⟩
      · by_cases hk : k = j
        · subst hk
          rw [hg] at hy
          cases hy
          obtain ⟨hsv', hsub⟩ := ht.serves hsv
          exact ⟨g', hg', hsub hry, ht.keeps.channel.trans hc, hsv', (move_none_of_keeps ht.keeps).mpr hmv⟩
        · exact ⟨y, by rw [hlocal.others k hk]; exact hy, hry, hc, hsv, hmv⟩

/-- R144: the end of a grant, with the holder of that channel left out of the account before it. -/
theorem floorsBut_endGrant {s : State} {c : Chan} (hf : FloorsBut (fun d r => E d r ∨ d = c) s) :
    FloorsBut E (s.endGrant c) := by
  have hother : ∀ (v : Channel) d h, d ≠ c → ((s.setChan c v).chan d).talk = some h →
      s.talkEligible d h.radio = true ∨ E d h.radio := fun v d h hd hh => by
    rw [chan_setChan_ne _ _ (Ne.symm hd)] at hh
    rcases hf d h hh with he | hE | hc
    · exact .inl he
    · exact .inr hE
    · exact absurd hc hd
  rcases endGrant_cases s c with ⟨hnone, he⟩ | ⟨h, -, he⟩ | ⟨h, q₁, x, q₂, j, role, g, -, hq, hplace, hg, hrole, hc, hst, hm, he⟩
  · rw [he]
    intro d x hx
    rcases hf d x hx with helig | hE | hc
    · exact .inl helig
    · exact .inr hE
    · rw [hc, hnone] at hx
      cases hx
  · rw [he]
    intro d x hx
    rw [talkEligible_setChan]
    by_cases hd : d = c
    · subst hd
      rw [chan_setChan_self] at hx
      cases hx
    · exact hother _ d x hd hx
  · rw [he]
    intro d y hy
    have hchan : ((s.setChan c ((s.chan c).passed h.radio x q₂ s.now)).refresh j x).chan d
        = (s.setChan c ((s.chan c).passed h.radio x q₂ s.now)).chan d := by rw [refresh_eq_setSlot, chan_setSlot]
    rw [hchan] at hy
    by_cases hd : d = c
    · subst hd
      rw [chan_setChan_self] at hy
      cases hy
      have helig : s.talkEligible d x = true := by
        unfold State.talkEligible
        rw [hplace]
        simp only [hg, hc, hm]
        rcases hst with h | h <;> simp [h]
      exact .inl (talkEligible_refresh j x (by rw [talkEligible_setChan]; exact helig))
    · exact (hother _ d y hd hy).imp (fun h => talkEligible_refresh j x (by rw [talkEligible_setChan]; exact h)) id

theorem base_endGrant (s : State) (c : Chan) : Base X s (s.endGrant c) := by
  rcases endGrant_cases s c with ⟨-, he⟩ | ⟨h, -, he⟩ | ⟨h, q₁, x, q₂, j, role, g, -, hq, -, -, -, -, -, -, he⟩
  · rw [he]; exact .refl X s
  · rw [he]
    exact (mild_setChan (E := fun _ _ => True) (chanStep_freed _ _ _) fun _ _ => .inr (.inr trivial)).toBase
  · rw [he]
    exact (mild_setChan (E := fun _ _ => True) (chanStep_passed _ _ hq) fun _ _ => .inr (.inr trivial)).toBase.trans
      (mild_refresh (E := fun _ _ => True) _ j x).toBase

theorem mild_endGrant (s : State) (c : Chan) : Mild X E s (s.endGrant c) :=
  ⟨base_endGrant s c, fun hf => floorsBut_endGrant (hf.mono fun _ _ => .inl)⟩

theorem still_endGrant (s : State) (c : Chan) : Still s (s.endGrant c) := by
  rcases endGrant_cases s c with ⟨-, he⟩ | ⟨h, -, he⟩ | ⟨h, q₁, x, q₂, j, role, g, -, -, -, -, -, -, -, -, he⟩
  · rw [he]; exact .refl s
  · rw [he]; exact still_setChan s c _ rfl
  · rw [he]; exact (still_setChan s c ((s.chan c).passed h.radio x q₂ s.now) rfl).trans (still_refresh _ j x)

theorem calm_endGrant (s : State) (c : Chan) : Calm X E s (s.endGrant c) := (mild_endGrant s c).calm (still_endGrant s c)

theorem mild_withdrawGroup (s : State) (cs : List Chan) (rs : List Radio) : Mild X E s (s.withdrawGroup cs rs) :=
  withdrawGroup_keeps (P := fun u => Mild X E s u) (fun u c hu => hu.trans (mild_endGrant u c)) cs rs (.refl X E s)

theorem still_withdrawGroup (s : State) (cs : List Chan) (rs : List Radio) : Still s (s.withdrawGroup cs rs) :=
  withdrawGroup_keeps (P := fun u => Still s u) (fun u c hu => hu.trans (still_endGrant u c)) cs rs (.refl s)

/-- R146: a withdrawal from a group's radios on the channels `cs` takes them out of the account there. -/
theorem floorsBut_withdrawGroup (cs : List Chan) (rs : List Radio) {s : State}
    (hf : FloorsBut (fun d r => E d r ∨ (d ∈ cs ∧ r ∈ rs)) s) : FloorsBut E (s.withdrawGroup cs rs) := by
  induction cs generalizing s with
  | nil => exact hf.mono fun d r h => h.resolve_right (by simp)
  | cons c cs ih =>
    unfold State.withdrawGroup
    rw [List.foldl_cons]
    refine ih ?_
    split
    · refine floorsBut_endGrant (hf.mono fun d r h => ?_)
      rcases h with h | ⟨hd, hr⟩
      · exact .inl (.inl h)
      · rcases List.mem_cons.mp hd with rfl | hd
        · exact .inr rfl
        · exact .inl (.inr ⟨hd, hr⟩)
    · next hno =>
      intro d h hh
      rcases hf d h hh with he | hE | ⟨hd, hr⟩
      · exact .inl he
      · exact .inr (.inl hE)
      · rcases List.mem_cons.mp hd with rfl | hd
        · refine absurd (List.any_eq_true.mpr ⟨h.radio, hr, holdsFloor_iff.mpr ⟨h, hh, rfl⟩⟩) hno
        · exact .inr (.inr ⟨hd, hr⟩)

/-- R38, R74: a withdrawal from one radio takes it out of the account on every channel. -/
theorem withdrawFrom_eq_group (s : State) (r : Radio) : s.withdrawFrom r = s.withdrawGroup channels [r] := by
  unfold State.withdrawFrom State.withdrawGroup
  congr 1
  funext s c
  simp

theorem floorsBut_withdrawFrom {s : State} {r : Radio} (hf : FloorsBut (fun d x => E d x ∨ x = r) s) :
    FloorsBut E (s.withdrawFrom r) := by
  rw [withdrawFrom_eq_group]
  exact floorsBut_withdrawGroup channels [r] (hf.mono fun d x h => h.imp id fun hx =>
    ⟨List.mem_finRange d, by simp [hx]⟩)

/-! ### Orders and approach records -/

theorem local_dropOrder (s : State) (i : SlotId) : Local i s (s.dropOrder i) := by
  unfold State.dropOrder
  split
  · exact .refl i s
  · split
    · exact .refl i s
    · exact ((Local.modGroup s i _).trans (.withdraw i _ _ _ _)).trans (.orphan i _ i _)

theorem local_discardOrder (s : State) (i : SlotId) : Local i s (s.discardOrder i) := by
  unfold State.discardOrder
  split
  · exact .refl i s
  · split
    · exact .refl i s
    · exact (local_dropOrder s i).trans (.modGroup _ i _)

theorem local_dropApproach (s : State) (i : SlotId) : Local i s (s.dropApproach i) := by
  unfold State.dropApproach
  split
  · exact .refl i s
  · split
    · exact .refl i s
    · exact ((Local.modGroup s i _).trans (.withdraw i _ _ _ _)).trans (.orphan i _ i _)

theorem sound_noOrder {g : Machine.Group} (h : g.Sound) : ({ g with order := none } : Machine.Group).Sound :=
  { h with order := nofun }

theorem sound_noApproach {g : Machine.Group} (h : g.Sound) : ({ g with approach := none } : Machine.Group).Sound :=
  { h with approach := nofun }

theorem tame_noOrder (w : Nat) (g : Machine.Group) : Tame w g { g with order := none } :=
  .plain (keeps_rfl rfl rfl rfl rfl rfl rfl) rfl rfl rfl rfl sound_noOrder

theorem tame_noApproach (w : Nat) (g : Machine.Group) : Tame w g { g with approach := none } :=
  .plain (keeps_rfl rfl rfl rfl rfl rfl rfl) rfl rfl rfl rfl sound_noApproach

theorem calm_dropOrder (s : State) (i : SlotId) : Calm X E s (s.dropOrder i) := by
  cases hg : s.group i with
  | none => rw [State.dropOrder, hg]; exact .refl X E s
  | some g =>
    exact calm_of_tame (local_dropOrder s i) hg (group_of_body (by rw [slot_dropOrder hg])) (tame_noOrder _ g)

theorem calm_dropApproach (s : State) (i : SlotId) : Calm X E s (s.dropApproach i) := by
  cases hg : s.group i with
  | none => rw [State.dropApproach, hg]; exact .refl X E s
  | some g =>
    exact calm_of_tame (local_dropApproach s i) hg (group_of_body (by rw [slot_dropApproach hg])) (tame_noApproach _ g)

/-! ### The end of a pending join -/

theorem entry_filter_ne (l : List RegEntry) {r x : Radio} (h : x ≠ r) :
    (l.filter fun e => e.radio != r).find? (fun e => e.radio == x) = l.find? fun e => e.radio == x := by
  rw [List.find?_filter]
  refine congrArg (fun p => l.find? p) (funext fun e => ?_)
  by_cases he : e.radio = x
  · simp [he, h]
  · simp [he]

theorem entry_map_ne (l : List RegEntry) (f : RegEntry → RegEntry) {r x : Radio} (h : x ≠ r)
    (hf : ∀ e, (f e).radio = e.radio) :
    (l.map fun e => if e.radio = r then f e else e).find? (fun e => e.radio == x) = l.find? fun e => e.radio == x := by
  induction l with
  | nil => rfl
  | cons e l ih =>
    rw [List.map_cons, List.find?_cons, List.find?_cons, ih]
    by_cases hr : e.radio = r
    · have hx : ¬ e.radio = x := fun hx => h (hx.symm.trans hr)
      have hnew : ((f e).radio == x) = false := by rw [hf]; simpa using hx
      have hold : (e.radio == x) = false := by simpa using hx
      rw [if_pos hr, hnew, hold]
    · simp [hr]

/-- R8: what an unpinning does to the table: the radio's own entry goes or loses its pin. -/
theorem unpin_spec (s : State) (r : Radio) :
    ((s.unpin r).table.map (·.radio)).Sublist (s.table.map (·.radio)) ∧ (s.unpin r).table.length ≤ s.table.length
      ∧ (∀ x, x ≠ r → (s.unpin r).entry x = s.entry x)
      ∧ ∀ e ∈ (s.unpin r).table, ∀ k, e.pinned = some k → e ∈ s.table ∧ (s.entry r ≠ none → e.radio ≠ r) := by
  unfold State.unpin
  split
  · next h => exact ⟨.refl _, le_refl _, fun _ _ => rfl, fun e he k _ => ⟨he, fun hne => absurd h hne⟩⟩
  · split
    · refine ⟨List.filter_sublist.map _, List.length_filter_le _ _, fun x hx => entry_filter_ne _ hx,
        fun e he k _ => ?_⟩
      obtain ⟨hmem, hne⟩ := List.mem_filter.mp he
      exact ⟨hmem, fun _ => by simpa using hne⟩
    · refine ⟨?_, by simp, fun x hx => entry_map_ne _ _ hx fun _ => rfl, fun e he k hk => ?_⟩
      · have hmap : (s.table.map fun e : RegEntry => if e.radio = r then { e with pinned := none } else e).map (·.radio)
            = s.table.map (·.radio) := by
          rw [List.map_map]
          refine List.map_congr_left fun e _ => ?_
          simp only [Function.comp_apply]
          split <;> rfl
        show ((s.table.map fun e : RegEntry => if e.radio = r then { e with pinned := none } else e).map (·.radio)).Sublist _
        rw [hmap]
      · obtain ⟨x, hx, hxe⟩ := List.mem_map.mp he
        split at hxe
        · subst hxe
          cases hk
        · next hne =>
          subst hxe
          exact ⟨hx, fun _ => hne⟩

@[simp] theorem unpin_chans (s : State) (r : Radio) : (s.unpin r).chans = s.chans := by
  unfold State.unpin
  repeat' split
  all_goals rfl

theorem unpin_values (s : State) (r : Radio) : valuesOf (s.unpin r) = valuesOf s := by
  unfold State.unpin
  repeat' split
  all_goals rfl

theorem local_noticeToEntry (i : SlotId) (s : State) (r : Radio) (n : Notice) (k : Nat) :
    Local i s (s.noticeToEntry r n k) := by
  unfold State.noticeToEntry
  split
  · exact .refl i s
  · exact .channelFrame i s _ _ _ _

/-- A record whose pending join ends. -/
def unjoined (g : Machine.Group) : Machine.Group := { g with join := none }

theorem sound_unjoined {g : Machine.Group} (h : g.Sound) : (unjoined g).Sound := { h with join := nofun }

/-- R8, R36, R37: the end of a pending join takes the join and the pin together. -/
theorem radiosSound_endJoin {s u : State} {i : SlotId} {g : Machine.Group} {j : PendingJoin} (hg : s.group i = some g)
    (hj : g.join = some j) (hu : ∀ k, u.group k = if k = i then some (unjoined g) else s.group k)
    (ht : u.table = (s.unpin j.radio).table) (h : s.RadiosSound) : u.RadiosSound := by
  obtain ⟨hone, hcap, hpin, hjoin⟩ := h
  obtain ⟨hsub, hlen, hentry, hkept⟩ := unpin_spec s j.radio
  have hji : joinAt s i = some j.radio := by simp [joinAt, hg, hj]
  have hpinned := hjoin i j.radio hji
  have hhas : s.entry j.radio ≠ none := fun hn => by simp [hn] at hpinned
  have hradios : ∀ k, radiosAt u k = radiosAt s k := fun k => by
    rw [radiosAt, hu]
    split
    · next hk => subst hk; simp [radiosAt, hg, unjoined, Group.radios]
    · rfl
  have hjoins : ∀ k, joinAt u k = if k = i then none else joinAt s k := fun k => by
    rw [joinAt, hu]
    split
    · simp [unjoined]
    · rfl
  refine ⟨?_, by rw [ht]; exact hlen.trans hcap, fun e he k hk => ?_, fun k r hk => ?_⟩
  · rw [knownRadios_eq] at hone ⊢
    rw [ht, show radiosAt u = radiosAt s from funext hradios]
    exact hone.sublist (hsub.append_right _)
  · rw [ht] at he
    obtain ⟨hmem, hne⟩ := hkept e he k hk
    have hold := hpin e hmem k hk
    have hki : k ≠ i := by
      rintro rfl
      exact hne hhas (Option.some.inj (hold.symm.trans hji))
    exact (hjoins k).trans ((if_neg hki).trans hold)
  · have hki : k ≠ i := by
      rintro rfl
      have := (hjoins k).symm.trans hk
      simp at this
    have hold : joinAt s k = some r := by
      rw [← hk]
      exact ((hjoins k).trans (if_neg hki)).symm
    have hne : r ≠ j.radio := by
      rintro rfl
      exact hki (Option.some.inj ((hjoin k _ hold).symm.trans hpinned))
    have hsame : u.entry r = s.entry r := by
      rw [← hentry r hne, State.entry, State.entry, ht]
    rw [hsame]
    exact hjoin k r hold

theorem floorsBut_congr {s u : State} (hc : ∀ c, (u.chan c).talk = (s.chan c).talk) (hg : ∀ i, u.group i = s.group i)
    (h : FloorsBut E s) : FloorsBut E u := fun c x hx => by
  rw [hc] at hx
  exact (h c x hx).imp (talkEligible_lasts (fun j y hy hry => ⟨y, hg j ▸ hy, hry⟩)
    fun j y hy hry hch hsv hmv => ⟨y, by rw [hg]; exact hy, hry, hch, hsv, hmv⟩) id

theorem endJoin_parts {s : State} {i : SlotId} {g : Machine.Group} (j : PendingJoin) (n : Notice) (call : Nat)
    (hg : s.group i = some g) :
    ∃ v : State, Local i s v ∧ v.group i = some (unjoined g) ∧ v.table = s.table ∧ v.now = s.now
      ∧ (endJoin s i j n call).chans = v.chans ∧ valuesOf (endJoin s i j n call) = valuesOf v
      ∧ (∀ k, (endJoin s i j n call).group k = v.group k)
      ∧ (endJoin s i j n call).table = (v.unpin j.radio).table := by
  set v := (s.modGroup i fun g => { g with join := none }).noticeToEntry j.radio n call with hv
  refine ⟨v, (Local.modGroup s i _).trans (local_noticeToEntry i _ _ _ _), ?_, ?_, ?_, ?_, ?_, fun k => ?_, ?_⟩
  · rw [hv, group_congr (noticeToEntry_slots ..), group_modGroup_self, hg]
    rfl
  · rw [((local_noticeToEntry i _ _ _ _).table : v.table = _), modGroup_table]
  · rw [hv, State.noticeToEntry]
    split <;> exact modGroup_now s i _
  · show (v.unpin j.radio).chans = _
    simp
  · exact unpin_values v j.radio
  · show ((v.unpin j.radio).mark i).group k = _
    rw [group_mark, group_congr (unpin_slots v j.radio)]
  · rfl

theorem unpin_table_congr {s v : State} (r : Radio) (ht : v.table = s.table) (hn : v.now = s.now)
    (hd : v.device = s.device) : (v.unpin r).table = (s.unpin r).table := by
  have hentry : v.entry r = s.entry r := by rw [State.entry, State.entry, ht]
  unfold State.unpin
  rw [hentry]
  split
  · exact ht
  · next e _ =>
    have hdue : v.entryDue e = s.entryDue e := by rw [State.entryDue, State.entryDue, hn, hd]
    rw [hdue]
    split
    · rw [State.dropEntry, State.dropEntry, ht]
    · rw [ht]

theorem fine_unjoined (w : Nat) (g : Machine.Group) : Fine w g (unjoined g) :=
  ⟨sound_unjoined, fun _ => warnOk_congr rfl rfl rfl⟩

theorem calm_endJoin {s : State} {i : SlotId} {g : Machine.Group} {j : PendingJoin} (n : Notice) (call : Nat)
    (hg : s.group i = some g) (hj : g.join = some j) :
    Mild X E s (endJoin s i j n call) ∧ Still s (endJoin s i j n call) := by
  obtain ⟨v, hlocal, hvg, hvt, hvn, hchans, hvalues, hgroups, htable⟩ := endJoin_parts j n call hg
  have hu : (endJoin s i j n call).group i = some (unjoined g) := by rw [hgroups, hvg]
  have hothers : ∀ k, k ≠ i → (endJoin s i j n call).group k = s.group k := fun k hk => by
    rw [hgroups, hlocal.others k hk]
  have hholds : ∀ c p, (unjoined g).holds c p ↔ g.holds c p := fun _ _ => Iff.rfl
  refine ⟨⟨⟨hvalues.trans hlocal.values, fun c => by rw [chan_congr hchans]; exact hlocal.chans c, fun k hk => ?_,
    radiosSound_endJoin hg hj (fun k => ?_) ?_⟩, fun hf => ?_⟩, ⟨fun c => ?_, fun k c p => ?_, fun k x hx => ?_⟩⟩
  · by_cases hki : k = i
    · subst hki
      rw [hg, hu]
      exact .of_fine (fine_unjoined _ g)
    · rw [hothers k hki]
      exact .refl _ _
  · split
    · next hki => rw [hki, hu]
    · next hki => exact hothers k hki
  · rw [htable]
    exact unpin_table_congr _ hvt hvn (device_of_values hlocal.values)
  · refine floorsBut_congr (fun c => by rw [chan_congr hchans]) hgroups ?_
    exact hlocal.toShift.floors hg hvg (fun _ h => h)
      (fun _ hr => .inl fun hsv hmv => ⟨rfl, hsv, hmv, hr⟩) hf
  · rw [chan_congr hchans, hlocal.occupancy]
  · by_cases hki : k = i
    · subst hki
      rw [hg, hu]
      simp [hholds]
    · rw [hothers k hki]
  · by_cases hki : k = i
    · subst hki
      rw [hu] at hx
      cases hx
      exact ⟨g, hg, rfl, rfl⟩
    · exact ⟨x, hothers k hki ▸ hx, rfl, rfl⟩

theorem calm_cancelJoin (s : State) (i : SlotId) (b : Bool) :
    Mild X E s (s.cancelJoin i b) ∧ Still s (s.cancelJoin i b) := by
  cases hg : s.group i with
  | none => rw [State.cancelJoin, hg]; exact ⟨.refl X E s, .refl s⟩
  | some g =>
    cases hj : g.join with
    | none => rw [cancelJoin_none b hg hj]; exact ⟨.refl X E s, .refl s⟩
    | some j => rw [cancelJoin_eq b hg hj]; exact calm_endJoin _ _ hg hj

end Sys2Proof.CalmProofs
end

section
/-!
The entry into HALT, the addition of causes, the loss of a crew member and the groups' own business, each shown calm.
-/
namespace Sys2Proof.EntryProofs
open Sys2Proof Sys2Proof.Machine Sys2Proof.Machine.Laws Sys2Proof.CommandProofs Sys2Proof.DeviceProofs
  Sys2Proof.PortProofs Sys2Proof.SlotProofs Sys2Proof.RecordProofs Sys2Proof.FrameProofs Sys2Proof.FloorProofs
  Sys2Proof.HaltProofs Sys2Proof.MemberProofs Sys2Proof.ReleaseProofs Sys2Proof.EvolveProofs Sys2Proof.CalmProofs

variable {X : SlotId → Prop} {E : Chan → Radio → Prop}

/-! ### The entry into HALT -/

theorem local_oldChannelHalt (i j : SlotId) (s : State) : Local i s (s.oldChannelHalt j) := by
  unfold State.oldChannelHalt
  split
  · exact .refl i s
  · split
    · exact .refl i s
    · exact .raise i s _ _ _ _

theorem local_haltBeat (s : State) (i : SlotId) : Local i s (s.haltBeat i) := by
  unfold State.haltBeat
  split
  · exact .refl i s
  · exact ((Local.withdraw i s _ _ _).trans (.raise i _ _ _ _ _)).trans (local_oldChannelHalt i i _)

theorem group_haltBeat (s : State) (i : SlotId) : (s.haltBeat i).group i = s.group i := group_congr (haltBeat_slots s i) i

theorem keeps_disordered (g : Machine.Group) : Keeps g (disordered g) := by
  obtain ⟨ns, hns⟩ := disordered_shape g
  rw [hns]
  exact keeps_rfl rfl rfl rfl rfl rfl rfl

/-- R81: an entry into HALT is calm, the group's own record left out of the account. -/
theorem calm_enterHalt {s : State} {i : SlotId} (hX : X i) : Calm X E s (s.enterHalt i) := by
  cases hg : s.group i with
  | none => rw [State.enterHalt, hg]; exact .refl X E s
  | some g =>
    set v := (((s.modGroup i fun g => { g with state := .halt }).mark i).discardOrder i).dropApproach i with hv
    set w := v.cancelJoin i true with hw
    have h0 : ((s.modGroup i fun g => { g with state := .halt }).mark i).slot i
        = { changed := true, body := .held { g with state := .halt } } := by
      rw [modGroup_eq _ hg, mark_setSlot, slot_setSlot_self]
    have h1 := slot_discardOrder (group_of_body (by rw [h0]))
    have h2 := slot_dropApproach (group_of_body (by rw [h1]))
    have hlocal : Local i s v := (((Local.modGroup s i _).trans (.mark _ i)).trans (local_discardOrder _ i)).trans
      (local_dropApproach _ i)
    have hvg : v.group i = some { disordered { g with state := .halt } with approach := none } :=
      group_of_body (by rw [hv, h2])
    have hkeeps : Keeps g { disordered { g with state := .halt } with approach := none } :=
      (keeps_rfl rfl rfl rfl rfl rfl rfl : Keeps g { g with state := .halt }).trans
        ((keeps_disordered _).trans (keeps_rfl rfl rfl rfl rfl rfl rfl))
    have hhalted : ∀ E' : Chan → Radio → Prop, (∀ r ∈ g.radios, E' g.channel r) → Mild X E' s v := fun E' hE' =>
      hlocal.mild hg hvg hkeeps (fun h => absurd hX h) (.of_exempt hE')
    have hwithdrawn : grounded s i g.radios
        = w.withdrawGroup (channels.filter fun c => s.holdsPhaseOn c i) g.radios := rfl
    have htail : ∀ E' : Chan → Radio → Prop, Mild X E' (grounded s i g.radios) (s.enterHalt i) := fun E' => by
      rw [enterHalt_eq hg]
      refine ((local_haltBeat _ i).mild_of_groups (group_haltBeat _ i)).trans ?_
      have hgg : ((grounded s i g.radios).haltBeat i).group i = some (halting g) := by
        rw [group_haltBeat, group_of_body (by rw [slot_grounded g.radios hg])]
      exact mild_of_tame (.modGroup _ i _) hgg (by rw [State.toLeader, State.groupNotice, group_modGroup_self, hgg]; rfl)
        (tame_noticed _ (halting g) _ _)
    have hstill : Still s (s.enterHalt i) := by
      rw [enterHalt_eq hg, hwithdrawn]
      refine ((hlocal.still hg hvg hkeeps).trans (calm_cancelJoin (X := X) (E := E) v i true).2).trans
        ((still_withdrawGroup w _ _).trans (((local_haltBeat _ i).calm_of_groups (X := X) (E := E)
          (group_haltBeat _ i)).still.trans (calm_toLeader (X := X) (E := E) _ i _).still))
    refine ⟨?_, hstill, fun hown hf => ?_⟩
    · refine (hhalted (fun _ _ => True) fun _ _ => trivial).toBase.trans
        (((calm_cancelJoin (E := E) v i true).1.toBase).trans ?_)
      rw [← hw]
      exact (mild_withdrawGroup (E := E) w _ _).toBase.trans (hwithdrawn ▸ (htail E).toBase)
    · have hheld : g.channel ∈ channels.filter fun c => s.holdsPhaseOn c i :=
        List.mem_filter.mpr ⟨List.mem_finRange _, List.any_eq_true.mpr
          ⟨g.phase, List.mem_finRange _, by simp [hown i g hg]⟩⟩
      refine (htail E).floors ?_
      rw [hwithdrawn]
      refine floorsBut_withdrawGroup _ _ ?_
      refine (calm_cancelJoin (X := X) v i true).1.floors ?_
      exact (hhalted _ fun r hr => .inr ⟨hheld, hr⟩).floors (hf.mono fun _ _ => .inl)

theorem disordered_notices {g : Machine.Group} (h : g.notices.length ≤ 4) : (disordered g).notices.length ≤ 4 := by
  cases ho : g.order with
  | none => simpa only [disordered, ho] using h
  | some o =>
    simp only [disordered, ho]
    exact pushNotice_bound _ _

/-- R81: what a record must bring for its entry into HALT to leave it sound. -/
theorem sound_halting {g : Machine.Group} (hstop : g.StopSound) (hwait : g.wait.map (·.kind) ≠ some .release)
    (hmove : ∀ m, g.move = some m → g.wait = none ∧ g.finalHalt = none ∧ m.oldChan ≠ g.channel)
    (hfinal : ∀ h, g.finalHalt = some h → h.chan ≠ g.channel) (hsize : g.SizeSound) : (halting g).Sound := by
  have hnotices : (halting g).notices.length ≤ 4 := disordered_notices (g := { g with state := .halt }) hsize.2.2.2.2.2.2.2
  obtain ⟨ns, hns⟩ := halting_shape g
  obtain ⟨hl, hd, hcrew, hlen, hpos, hptr, hdrop, -⟩ := hsize
  rw [hns] at hnotices ⊢
  exact ⟨nofun, nofun, nofun, hstop, hwait, nofun, ⟨fun m hm => ⟨.inr (.inr rfl), hmove m hm⟩, hfinal⟩,
    hl, hd, hcrew, hlen, hpos, hptr, hdrop, hnotices⟩

theorem wait_of_enters {g : Machine.Group} (h : g.Sound) (he : g.state.entersHalt = true) :
    g.wait.map (·.kind) ≠ some .release := by
  have hw := h.wait
  unfold Group.WaitSound at hw
  cases hs : g.state with
  | opening => simp only [hs] at hw; simp [hw]
  | active => simp only [hs] at hw; simp [hw]
  | degraded => simp only [hs] at hw; simp [hw]
  | halt => simp [hs, GroupState.entersHalt] at he
  | releasing => simp [hs, GroupState.entersHalt] at he

theorem moves_of_sound {g : Machine.Group} (h : g.Sound) :
    ∀ m, g.move = some m → g.wait = none ∧ g.finalHalt = none ∧ m.oldChan ≠ g.channel := fun m hm =>
  (h.move.1 m hm).2

theorem warnOk_halted (w : Nat) {g : Machine.Group} (h : g.state = .halt) : WarnOk w g := by
  constructor <;> intro hs <;> rw [h] at hs <;> cases hs

/-! ### Adding causes -/

/-- R76, R81, R85: a record after causes are added by one event. -/
def caused (g : Machine.Group) (cs : Causes) : Machine.Group :=
  if g.causes.union cs = g.causes then g
  else if g.state.entersHalt = true then
    noticed (halting { g with causes := g.causes.union cs }) (.halted (g.causes.union cs)) .leader
  else { g with causes := g.causes.union cs }

theorem addCauses_free {s : State} {i : SlotId} (cs : Causes) (h : s.group i = none) : s.addCauses i cs = s := by
  simp only [State.addCauses, h]

theorem group_addCauses {s : State} {i : SlotId} {g : Machine.Group} (cs : Causes) (hg : s.group i = some g) :
    (s.addCauses i cs).group i = some (caused g cs) := by
  have hmarked : ((s.modGroup i fun g => { g with causes := g.causes.union cs }).mark i).group i
      = some { g with causes := g.causes.union cs } := by
    rw [group_mark, group_modGroup_self, hg]
    rfl
  simp only [State.addCauses, hg, caused]
  split
  · exact hg
  · split
    · exact group_of_body (by rw [slot_enterHalt hmarked])
    · exact hmarked

theorem calm_addCauses_exempt {s : State} {i : SlotId} (hX : X i) (cs : Causes) : Calm X E s (s.addCauses i cs) := by
  cases hg : s.group i with
  | none => rw [addCauses_free cs hg]; exact .refl X E s
  | some g =>
    have hmarked : ((s.modGroup i fun g => { g with causes := g.causes.union cs }).mark i).group i
        = some { g with causes := g.causes.union cs } := by
      rw [group_mark, group_modGroup_self, hg]
      rfl
    have hadded : Calm X E s ((s.modGroup i fun g => { g with causes := g.causes.union cs }).mark i) :=
      ((Local.modGroup s i _).trans (.mark _ i)).calm hg hmarked (keeps_rfl rfl rfl rfl rfl rfl rfl)
        (fun h => absurd hX h) (.of_serves (keeps_rfl rfl rfl rfl rfl rfl rfl) fun h => ⟨h, fun _ hr => hr⟩)
    simp only [State.addCauses, hg]
    split
    · exact .refl X E s
    · split
      · exact hadded.trans (calm_enterHalt hX)
      · exact hadded

theorem causes_union_stop {cs ds : Causes} (h : ds.stopUnconfirmed = false) :
    (cs.union ds).stopUnconfirmed = cs.stopUnconfirmed := by
  simp [Causes.union, h]

theorem fine_caused (w : Nat) {g : Machine.Group} {cs : Causes} (hcs : cs.stopUnconfirmed = false) :
    Fine w g (caused g cs) := by
  unfold caused
  split
  · exact .refl w g
  · split
    · next he =>
      refine ⟨fun h => sound_noticed _ _ (sound_halting (h.stop.trans (causes_union_stop hcs).symm)
        (wait_of_enters (g := g) h he) (moves_of_sound (g := g) h) h.move.2 h.size), fun _ _ => warnOk_halted w ?_⟩
      obtain ⟨ns, hns⟩ := halting_shape { g with causes := g.causes.union cs }
      rw [hns]
      rfl
    · next he =>
      exact ⟨fun h => { h with
        causes := fun hs => absurd hs he
        stop := h.stop.trans (causes_union_stop hcs).symm }, fun _ => warnOk_congr rfl rfl rfl⟩

/-- R76, R85: the addition of causes is calm, the unconfirmed STOP apart. -/
theorem calm_addCauses (s : State) (i : SlotId) {cs : Causes} (hcs : cs.stopUnconfirmed = false) :
    Calm X E s (s.addCauses i cs) := by
  refine (calm_addCauses_exempt (Or.inr rfl) cs).settle fun _ => ?_
  cases hg : s.group i with
  | none => rw [addCauses_free cs hg, hg]; exact .refl _ _
  | some g => rw [group_addCauses cs hg]; exact .of_fine (fine_caused _ hcs)

theorem calm_addCause (s : State) (i : SlotId) {c : Cause} (hc : c ≠ .stopUnconfirmed) :
    Calm X E s (s.addCause i c) :=
  calm_addCauses s i (by cases c <;> first | rfl | exact absurd rfl hc)

theorem calm_dropBeat (s : State) (i : SlotId) : Calm X E s (s.dropBeat i) := by
  unfold State.dropBeat
  split
  · exact .refl X E s
  · next g hg =>
    have hcount : Calm X E s (s.modGroup i fun x => { x with dropped := min 4 (g.dropped + 1) }) :=
      calm_modGroup s i _ fun x _ => .plain (keeps_rfl rfl rfl rfl rfl rfl rfl) rfl rfl rfl rfl fun h => by
        obtain ⟨h1, h2, h3, h4, h5, h6, h7, hl, hd, hcrew, hlen, hpos, hptr, -, hq⟩ := h
        exact ⟨h1, h2, h3, h4, h5, h6, h7, hl, hd, hcrew, hlen, hpos, hptr, Nat.min_le_left 4 _, hq⟩
    dsimp only
    split
    · exact hcount.trans (calm_addCause _ i (by simp))
    · exact hcount

/-! ### The loss of a crew member -/

theorem removeCrew_spec (g : Machine.Group) (r : Radio) :
    g.removeCrew r = g ∨ ∃ k, k < g.crew.length ∧ g.removeCrew r = { g with
      crew := g.crew.eraseIdx k, pointer := if g.crew.length ≤ 1 then none else adjustPointer g.pointer k } := by
  unfold Group.removeCrew
  split
  · exact .inl rfl
  · next k hk => exact .inr ⟨k, (List.findIdx?_eq_some_iff_findIdx_eq.mp hk).1, rfl⟩

/-- R62: the crew pointer follows a member that leaves. -/
theorem adjustPointer_lt {p : Option Nat} {n k : Nat} (hp : ∀ x, p = some x → x < n) (hk : k < n) (hn : 1 < n) :
    ∀ x, adjustPointer p k = some x → x < n - 1 := by
  intro x hx
  cases p with
  | none => cases hx
  | some m =>
    have hm := hp m rfl
    unfold adjustPointer at hx
    split at hx
    · cases hx
    · next h =>
      cases h
      split at hx
      · cases hx; omega
      · split at hx
        · split at hx
          · cases hx
          · cases hx; omega
        · cases hx; omega

theorem sound_removeCrew {g : Machine.Group} (r : Radio) (h : g.Sound) : (g.removeCrew r).Sound := by
  rcases removeCrew_spec g r with he | ⟨k, hk, he⟩
  · rw [he]; exact h
  · rw [he]
    obtain ⟨h1, h2, h3, h4, h5, h6, h7, hl, hd, hcrew, hlen, hpos, hptr, hdrop, hq⟩ := h
    have hlength : (g.crew.eraseIdx k).length = g.crew.length - 1 := List.length_eraseIdx_of_lt hk
    refine ⟨h1, h2, h3, h4, h5, fun hj => ⟨(h6 hj).1, ?_⟩, h7, hl, hd,
      fun m hm => hcrew m (List.mem_of_mem_eraseIdx hm), ?_, hpos, fun x hx => ?_, hdrop, hq⟩
    · have := (h6 hj).2
      simp only [hlength]
      omega
    · simp only [hlength]
      omega
    · simp only [hlength]
      dsimp only at hx
      split at hx
      · cases hx
      · exact adjustPointer_lt hptr hk (by omega) x hx

theorem sound_uncheck {g : Machine.Group} (r : Radio) (h : g.Sound) : (g.uncheck r).Sound := by
  unfold Group.uncheck
  split
  · exact h
  · next m hm =>
    exact { h with
      order := fun ho => by
        have := (h.order ho).2
        rw [hm] at this
        cases this
      move := ⟨fun m' hm' => by
        cases hm'
        exact h.move.1 m hm, h.move.2⟩ }

theorem sound_without {g : Machine.Group} (r : Radio) (h : g.Sound) : (without g r).Sound :=
  sound_uncheck r (((tame_answered 0 _ r).fine).sound (sound_removeCrew r h))

theorem keeps_uncheck (g : Machine.Group) (r : Radio) : Keeps g (g.uncheck r) := by
  unfold Group.uncheck
  split
  · exact .refl g
  · next m hm => exact ⟨rfl, rfl, by rw [hm]; rfl, rfl, .refl _, rfl⟩

theorem keeps_removeCrew (g : Machine.Group) (r : Radio) : Keeps g (g.removeCrew r) := by
  have hsub : (g.removeCrew r).radios.Subperm g.radios := by
    obtain ⟨ms, p, he⟩ := removeCrew_shape g r
    have hr := removeCrew_radios g r
    rw [he] at hr ⊢
    refine List.Sublist.subperm ?_
    simp only [Group.radios]
    rw [hr]
    exact ((List.erase_sublist).cons_cons _).cons_cons _
  obtain ⟨ms, p, he⟩ := removeCrew_shape g r
  rw [he] at hsub ⊢
  exact ⟨rfl, rfl, rfl, rfl, hsub, rfl⟩

theorem keeps_without (g : Machine.Group) (r : Radio) : Keeps g (without g r) :=
  ((keeps_removeCrew g r).trans (tame_answered 0 _ r).keeps).trans (keeps_uncheck _ r)

theorem mem_radios_without {g : Machine.Group} {r x : Radio} (hx : x ∈ g.radios) (hne : x ≠ r) :
    x ∈ (without g r).radios := by
  obtain ⟨ms, p, w, m, hshape, hradios, -, -⟩ := without_shape g r
  rw [hshape]
  simp only [Group.radios, List.mem_cons] at hx ⊢
  rw [hradios]
  exact hx.imp id (Or.imp id fun h => (List.mem_erase_of_ne hne).mpr h)

theorem fine_without (w : Nat) (g : Machine.Group) (r : Radio) : Fine w g (without g r) := by
  refine ⟨sound_without r, fun _ hw => ?_⟩
  obtain ⟨ms, p, w', m, hshape, -, -, -⟩ := without_shape g r
  rw [hshape]
  exact warnOk_congr rfl rfl rfl hw

theorem owes_without (g : Machine.Group) (r : Radio) : Owes (fun d x => E d x ∨ x = r) g (without g r) := fun x hx => by
  by_cases hne : x = r
  · exact .inr (.inr hne)
  · have hk := keeps_without g r
    refine .inl fun hsv hmv => ⟨hk.channel, ?_, (move_none_of_keeps hk).mpr hmv, mem_radios_without hx hne⟩
    obtain ⟨ms, p, w', m, hshape, -, -, -⟩ := without_shape g r
    rw [hshape]
    exact hsv

/-- R38, R74: a crew member leaves the record and every floor it holds. -/
theorem calm_leaves (s : State) (i : SlotId) (r : Radio) :
    Mild X E s ((s.modGroup i fun g => ((g.removeCrew r).closeWindowOf r).uncheck r).withdrawFrom r)
      ∧ Still s ((s.modGroup i fun g => ((g.removeCrew r).closeWindowOf r).uncheck r).withdrawFrom r) := by
  set v := s.modGroup i fun g => ((g.removeCrew r).closeWindowOf r).uncheck r with hv
  have hwithdrawn : Mild X E v (v.withdrawFrom r) ∧ Still v (v.withdrawFrom r) := by
    rw [withdrawFrom_eq_group]
    exact ⟨mild_withdrawGroup v _ _, still_withdrawGroup v _ _⟩
  cases hg : s.group i with
  | none =>
    have hfree : v = s := modGroup_free _ hg
    rw [hfree] at hwithdrawn ⊢
    exact hwithdrawn
  | some g =>
    have hvg : v.group i = some (without g r) := by rw [hv, group_modGroup_self, hg]; rfl
    have hlocal : Local i s v := .modGroup s i _
    have hleft := hlocal.mild (X := X) (E := fun d x => E d x ∨ x = r) hg hvg (keeps_without g r)
      (fun _ => fine_without _ g r) (owes_without g r)
    exact ⟨⟨hleft.toBase.trans hwithdrawn.1.toBase, fun hf => floorsBut_withdrawFrom
      (hleft.floors (hf.mono fun _ _ => .inl))⟩, (hlocal.still hg hvg (keeps_without g r)).trans hwithdrawn.2⟩

theorem calm_loseCrew (s : State) (i : SlotId) (r : Radio) : Calm X E s (s.loseCrew i r) := by
  obtain ⟨hmild, hstill⟩ := calm_leaves (X := X) (E := E) s i r
  exact ((hmild.calm hstill).trans (calm_toLeader _ i _)).trans (calm_mark _ i)

/-! ### Approach supervision -/

/-- A change of the fields that no invariant reads. -/
theorem tame_loco (w : Nat) (g : Machine.Group) (m : Motion) (v o : Option Nat) :
    Tame w g { g with loco := { g.loco with motion := m, speed := v, odometer := o } } :=
  .plain (keeps_rfl rfl rfl rfl rfl rfl rfl) rfl rfl rfl rfl fun h => ⟨h.1, h.2, h.3, h.4, h.5, h.6, h.7, h.8⟩

theorem calm_locoUpdate (s : State) (i : SlotId) (f : UplinkFrame) : Calm X E s (s.locoUpdate i f) := by
  have hwrite : Calm X E s (s.modGroup i fun g => { g with
      loco := { g.loco with
        motion := motionOf f.motion, speed := some (speedOf f.speed), odometer := some f.odometer } }) :=
    calm_modGroup s i _ fun g _ => tame_loco _ g _ _ _
  unfold State.locoUpdate
  dsimp only
  split
  · exact hwrite.trans (calm_removeCause _ i (by simp))
  · exact hwrite

theorem calm_odometerUpdate (s : State) (i : SlotId) (f : UplinkFrame) : Calm X E s (s.odometerUpdate i f) :=
  calm_modGroup s i _ fun g _ => tame_loco _ g g.loco.motion g.loco.speed _

/-- A change of the latch of an approach record. -/
theorem tame_latch (w : Nat) (g : Machine.Group) (b : Bool) :
    Tame w g { g with approach := g.approach.map fun a => { a with latch := b } } :=
  .plain (keeps_rfl rfl rfl rfl rfl rfl rfl) rfl rfl rfl rfl fun h =>
    { h with approach := fun ha => h.approach (by simpa using ha) }

theorem calm_latch (s : State) (i : SlotId) (b : Bool) :
    Calm X E s (s.modGroup i fun g => { g with approach := g.approach.map fun a => { a with latch := b } }) :=
  calm_modGroup s i _ fun g _ => tame_latch _ g b

theorem calm_approachOutcome (s : State) (i : SlotId) (g : Machine.Group) (a : Approach) (speed permitted rem : Nat)
    (m : Motion) : Calm X E s (s.approachOutcome i g a speed permitted rem m) := by
  have hclear : Calm X E s (s.clearLatch i g) := (calm_withdraw s _ _ _).trans (calm_latch _ i false)
  have hadvise : Calm X E s (s.adviseEase i g permitted rem speed) :=
    ((calm_raise s _ _ _ _).trans (calm_toLeader _ i _)).trans (calm_latch _ i true)
  have hfirst : Calm X E s (if speedExcess speed permitted ≤ s.device.easeTol then (if a.latch then s.clearLatch i g else s)
      else if a.latch then s else s.adviseEase i g permitted rem speed) := by
    split
    · split
      · exact hclear
      · exact .refl X E s
    · split
      · exact .refl X E s
      · exact hadvise
  unfold State.approachOutcome
  dsimp only
  split
  · exact hfirst.trans (calm_dropApproach _ i)
  · exact hfirst

theorem calm_approachCheck (s : State) (i : SlotId) (speed odometer : Nat) (m : Motion) :
    Calm X E s (s.approachCheck i speed odometer m) := by
  unfold State.approachCheck
  split
  · exact .refl X E s
  · split
    · exact .refl X E s
    · split
      · dsimp only
        split
        · exact calm_addCause s i (by simp)
        · exact calm_approachOutcome s i _ _ _ _ _ _
      · exact .refl X E s

/-! ### Orders -/

/-- R101, R103: an order in flight of a group in service with no move record. -/
theorem tame_order (w : Nat) {g : Machine.Group} (o : OrderInFlight) (hs : InService g) (hm : g.move = none) :
    Tame w g { g with order := some o } :=
  .plain (keeps_rfl rfl rfl rfl rfl rfl rfl) rfl rfl rfl rfl fun h => { h with order := fun _ => ⟨hs, hm⟩ }

theorem calm_takeOrder {s : State} {i : SlotId} {g : Machine.Group} (o : Order) (hg : s.group i = some g)
    (hs : InService g) (hm : g.move = none) : Calm X E s (s.takeOrder i g o) := by
  have hwrite : Calm X E s (s.modGroup i fun g => { g with order := some { order := o, expiry := none } }) :=
    calm_modGroup s i _ fun x hx => by
      rw [hg] at hx
      cases hx
      exact tame_order _ _ hs hm
  unfold State.takeOrder
  split
  · exact hwrite.trans (calm_raise _ _ _ _ _)
  · split
    · exact .refl X E s
    · exact (hwrite.trans (calm_orphan _ i _)).trans (calm_raise _ _ _ _ _)

theorem inService_of {g : Machine.Group} (h1 : ¬ g.state = .halt) (h2 : ¬ (g.state = .opening ∨ g.state = .releasing)) :
    InService g := by
  unfold InService
  cases hs : g.state <;> simp_all

theorem calm_orderAct (s : State) (f : UplinkFrame) (i : SlotId) : Calm X E s (s.orderAct f i) := by
  unfold State.orderAct
  split
  · next g o hg _ =>
    split
    · exact calm_toRadio s i _ _
    · next hhalt =>
      split
      · exact calm_toRadio s i _ _
      · next hout =>
        split
        · exact calm_toRadio s i _ _
        · next hmove =>
          have hm : g.move = none := by simpa using hmove
          split
          · exact calm_toLeader s i _
          · split
            · exact calm_toRadio s i _ _
            · exact calm_takeOrder o hg (inService_of hhalt hout) hm
  · exact calm_toRadio s i _ _
  · exact .refl X E s

theorem calm_lastConfirmed (s : State) (i : SlotId) (c : ConfirmedOrder) :
    Calm X E s (s.modGroup i fun g => { g with lastConfirmed := some c }) :=
  calm_modGroup s i _ fun _ _ => .plain (keeps_rfl rfl rfl rfl rfl rfl rfl) rfl rfl rfl rfl fun h =>
    ⟨h.1, h.2, h.3, h.4, h.5, h.6, h.7, h.8⟩

end Sys2Proof.EntryProofs
end

section
/-!
What the members' frames and the groups' timers do to a group that keeps its phases, each shown calm.
-/
namespace Sys2Proof.ActProofs
open Sys2Proof Sys2Proof.Machine Sys2Proof.Machine.Laws Sys2Proof.CommandProofs Sys2Proof.DeviceProofs
  Sys2Proof.PortProofs Sys2Proof.SlotProofs Sys2Proof.RecordProofs Sys2Proof.FrameProofs Sys2Proof.FloorProofs
  Sys2Proof.HaltProofs Sys2Proof.MemberProofs Sys2Proof.ReleaseProofs Sys2Proof.EvolveProofs Sys2Proof.CalmProofs
  Sys2Proof.EntryProofs

variable {X : SlotId → Prop} {E : Chan → Radio → Prop}

/-- An operation that is calm where `P` holds of a record is calm where soundness gives `P`. -/
theorem calm_assuming {s u : State} {i : SlotId} {g : Machine.Group} {P : Prop} (hg : s.group i = some g)
    (hP : g.Sound → P) (h : ∀ Y : SlotId → Prop, (¬ Y i → P) → Calm Y E s u) : Calm X E s u := by
  refine (h (fun j => X j ∨ j = i) fun hn => absurd (Or.inr rfl) hn).settle fun hXi => ?_
  by_cases hp : P
  · exact (h X fun _ => hp).slots i hXi
  · have hno : ¬ g.Sound := fun hs => hp (hP hs)
    rw [hg]
    exact ⟨fun hs => absurd (hs g rfl) hno, fun hs _ => absurd (hs g rfl) hno⟩

theorem calm_modGroup_unless {s : State} {i : SlotId} {g : Machine.Group} {f : Machine.Group → Machine.Group}
    (hg : s.group i = some g) (hk : Keeps g (f g)) (hs : Serves g (f g)) (hf : ¬ X i → Fine s.device.warn g (f g)) :
    Calm X E s (s.modGroup i f) := by
  rw [modGroup_eq f hg]
  exact (Local.setSlot s i _).calm hg (group_setSlot_held ..) hk hf (.of_serves hk hs)

/-! ### The confirmation of an order -/

/-- R109: an approach record in place of the old one. -/
theorem calm_setApproach {s : State} {i : SlotId} {g : Machine.Group} (hg : s.group i = some g)
    (h : ¬ X i → InService g) (f : Machine.Group → Option Approach) :
    Calm X E s (s.modGroup i fun g => { g with approach := f g }) :=
  calm_modGroup_unless hg (keeps_rfl rfl rfl rfl rfl rfl rfl) (fun hs => ⟨hs, fun _ hr => hr⟩) fun hX =>
    ⟨fun hs => { hs with approach := fun _ => h hX }, fun _ => warnOk_congr rfl rfl rfl⟩

theorem calm_approachOnConfirm {s : State} {i : SlotId} {g : Machine.Group} (hg : s.group i = some g)
    (h : ¬ X i → InService g) (o : Order) (odometer : Nat) : Calm X E s (s.approachOnConfirm i o odometer) := by
  have hdrop := slot_dropApproach hg
  unfold State.approachOnConfirm
  split
  · exact .refl X E s
  · exact (calm_dropApproach s i).trans (calm_setApproach (g := { g with approach := none })
      (group_of_body (by rw [hdrop])) h _)
  · exact calm_dropApproach s i
  · exact calm_dropApproach s i
  · exact calm_dropApproach s i

theorem calm_confirmOrder {s : State} {i : SlotId} {g : Machine.Group} {x : OrderInFlight} (odometer : Nat)
    (hg : s.group i = some g) (ho : g.order = some x) : Calm X E s (s.confirmOrder i x.order odometer) := by
  refine calm_assuming hg (P := InService g) (fun hs => (hs.order (by rw [ho]; rfl)).1) fun Y hY => ?_
  have hdrop := slot_dropOrder hg
  have hconfirmed : ((s.dropOrder i).modGroup i fun g =>
      { g with lastConfirmed := some { kind := x.order.kind, arg := x.order.arg } }).group i
      = some { g with order := none, lastConfirmed := some { kind := x.order.kind, arg := x.order.arg } } := by
    rw [group_modGroup_self, group_of_body (by rw [hdrop])]
    rfl
  exact ((((calm_dropOrder s i).trans (calm_lastConfirmed _ i _)).trans
    (calm_approachOnConfirm hconfirmed hY x.order odometer)).trans (calm_toLeader _ i _)).trans (calm_mark _ i)

/-! ### The unconfirmed STOP -/

/-- R80, R110: the unconfirmed-stop record and its cause leave together. -/
theorem tame_stopConfirmed (w : Nat) (g : Machine.Group) :
    Tame w g { g with unconfirmed := none, causes := g.causes.del .stopUnconfirmed } :=
  .plain (keeps_rfl rfl rfl rfl rfl rfl rfl) rfl rfl rfl rfl fun h => { h with
    causes := fun hs => by
      show g.causes.del .stopUnconfirmed = {}
      rw [h.causes hs, del_empty]
    stop := rfl }

theorem calm_stopConfirmed {s : State} {i : SlotId} {g : Machine.Group} (hg : s.group i = some g) :
    Calm X E s ((s.modGroup i fun g => { g with unconfirmed := none }).removeCause i .stopUnconfirmed) := by
  rw [modGroup_eq _ hg, removeCause_setSlot]
  exact calm_setSlot _ hg (tame_stopConfirmed _ g)

theorem calm_lateOrderAck (s : State) (i : SlotId) (seq : Nat) : Calm X E s (s.lateOrderAck i seq) := by
  unfold State.lateOrderAck
  split
  · exact .refl X E s
  · next g hg =>
    split
    · exact calm_stopConfirmed hg
    · exact .refl X E s

theorem calm_orderAckAct (s : State) (f : UplinkFrame) (i : SlotId) : Calm X E s (s.orderAckAct f i) := by
  unfold State.orderAckAct
  split
  · exact .refl X E s
  · next g hg =>
    split
    · exact calm_lateOrderAck s i _
    · next o ho =>
      split
      · exact calm_confirmOrder _ hg ho
      · exact calm_lateOrderAck s i _

theorem calm_haltAckAct (s : State) (i : SlotId) : Calm X E s (s.haltAckAct i) := by
  unfold State.haltAckAct
  split
  · exact .refl X E s
  · next g hg =>
    split
    · exact calm_stopConfirmed hg
    · exact .refl X E s

/-! ### The attachment -/

/-- R27, R29: an acknowledged attachment, before the warn condition is judged. -/
theorem sound_attached {g : Machine.Group} (hwait : g.wait.any (fun w => w.kind == .attach) = true) (h : g.Sound) :
    (g.state = .opening → ({ g with wait := none, state := .active } : Machine.Group).Sound)
      ∧ (g.state ≠ .opening → ({ g with wait := none } : Machine.Group).Sound) := by
  have hkind : g.wait.map (·.kind) = some .attach := by
    cases hw : g.wait with
    | none => rw [hw] at hwait; cases hwait
    | some w => rw [hw] at hwait; simpa using hwait
  have hsome : g.wait ≠ none := fun hn => by rw [hn] at hkind; cases hkind
  have hnoMove : g.move = none := by
    by_contra hm
    obtain ⟨m, hm⟩ := Option.ne_none_iff_exists'.mp hm
    exact hsome (h.move.1 m hm).2.1
  have hw := h.wait
  unfold Group.WaitSound at hw
  refine ⟨fun hs => ?_, fun hs => ?_⟩
  · have henters : g.state.entersHalt = true := by rw [hs]; rfl
    have hout : ¬ (g.state = .active ∨ g.state = .degraded) := by rw [hs]; simp
    exact { h with
      causes := fun _ => h.causes henters
      order := fun ho => absurd (h.order ho).1 hout
      approach := fun ha => absurd (h.approach ha) hout
      wait := rfl
      join := fun hj => absurd (h.join hj).1 hout
      move := ⟨fun m hm => absurd (hnoMove.symm.trans hm) nofun, h.move.2⟩ }
  · exact { h with
      wait := by
        unfold Group.WaitSound
        cases hst : g.state with
        | opening => exact absurd hst hs
        | active => simp
        | degraded => simp
        | halt => simp
        | releasing => rw [hst] at hw; rw [hkind] at hw; cases hw
      move := ⟨fun m hm => absurd (hnoMove.symm.trans hm) nofun, h.move.2⟩ }

theorem calm_attachAckAct (s : State) (i : SlotId) : Calm X E s (s.attachAckAct i) := by
  unfold State.attachAckAct
  split
  · exact .refl X E s
  · next g hg =>
    split
    · next hwait =>
      set v := ((s.modGroup i fun g => { g with wait := none }).withdraw g.channel (.phase g.phase) .attach).orphan i
        Frame.isAttach with hv
      have hlocal : Local i s v := ((Local.modGroup s i _).trans (.withdraw i _ _ _ _)).trans (.orphan i _ i _)
      have hvg : v.group i = some { g with wait := none } := by rw [hv, group_orphan]; simp [hg]
      have hdevice : v.device = s.device := device_of_values hlocal.values
      dsimp only
      rw [toLeader_eq _ hvg]
      split
      · next hs =>
        rw [modGroup_setSlot, mark_setSlot, judgeWarn_setSlot, hdevice]
        set g' : Machine.Group :=
          { noticed { g with wait := none } (.assigned g.loco.radio) .leader with state := .active } with hg'
        have hk : Keeps g g' := keeps_rfl rfl rfl rfl rfl rfl rfl
        have hj := tame_judged s.device.warn g'
        refine (hlocal.trans (.setSlot v i _)).calm hg (group_setSlot_held ..) (hk.trans hj.keeps)
          (fun _ => ⟨fun h => hj.fine.sound ?_, fun _ _ => warnOk_judged _ _⟩) (.of_idle fun hi => ?_)
        · exact sound_noticed (g := { g with wait := none, state := .active }) _ _ ((sound_attached hwait h).1 hs)
        · rcases hi.1 with h | h <;> rw [hs] at h <;> cases h
      · next hs =>
        refine (hlocal.trans (.setSlot v i _)).calm hg (group_setSlot_held ..) (keeps_rfl rfl rfl rfl rfl rfl rfl)
          (fun _ => ⟨fun h => sound_noticed _ _ ((sound_attached hwait h).2 hs), fun _ => warnOk_congr rfl rfl rfl⟩)
          (.of_serves (keeps_rfl rfl rfl rfl rfl rfl rfl) fun hi => ⟨hi, fun _ hr => hr⟩)
    · exact .refl X E s

/-! ### Floors asked for and given back -/

theorem chanStep_filterQueue (ch : Channel) (p : Radio → Bool) :
    ChanStep ch { ch with talkQueue := ch.talkQueue.filter p } := by
  refine ⟨rfl, fun _ h => ⟨h.requests, h.noticeCapacity, (List.length_filter_le _ _).trans h.queueCapacity,
    h.queueDistinct.filter _, fun x hx hm => h.holderNotQueued x hx (List.mem_filter.mp hm).1, fun hf hn => ?_⟩⟩
  simp only [h.freeFloor hf hn, List.filter_nil]

theorem calm_filterQueue (s : State) (c : Chan) (p : Radio → Bool) :
    Calm X E s (s.modChan c fun ch => { ch with talkQueue := ch.talkQueue.filter p }) :=
  (mild_setChan (chanStep_filterQueue _ p) fun h hh => .inl ⟨h, hh, rfl⟩).calm (still_setChan s c _ rfl)

theorem calm_talkEndAct (s : State) (r : Radio) (i : SlotId) : Calm X E s (s.talkEndAct r i) := by
  unfold State.talkEndAct
  split
  · exact .refl X E s
  · split
    · exact calm_endGrant s _
    · exact calm_filterQueue s _ _

/-! ### A pending join begins -/

theorem entry_map_self {l : List RegEntry} {f : RegEntry → RegEntry} {r : Radio} {e : RegEntry}
    (h : l.find? (fun e => e.radio == r) = some e) (hf : ∀ e, (f e).radio = e.radio) :
    (l.map fun e => if e.radio = r then f e else e).find? (fun e => e.radio == r) = some (f e) := by
  induction l with
  | nil => cases h
  | cons x l ih =>
    rw [List.map_cons, List.find?_cons]
    rw [List.find?_cons] at h
    by_cases hx : x.radio = r
    · have hx' : (x.radio == r) = true := by simpa using hx
      rw [hx'] at h
      cases h
      rw [if_pos hx, hf, hx']
    · have hx' : (x.radio == r) = false := by simpa using hx
      rw [hx'] at h
      rw [if_neg hx, hx']
      exact ih h

theorem pin_radios (s : State) (r : Radio) (i : SlotId) : (s.pin r i).table.map (·.radio) = s.table.map (·.radio) := by
  show (s.table.map fun e : RegEntry => if e.radio = r then { e with pinned := some i } else e).map (·.radio) = _
  rw [List.map_map]
  refine List.map_congr_left fun e _ => ?_
  simp only [Function.comp_apply]
  split <;> rfl

/-- R8, R33: the join and the pin come together. -/
theorem radiosSound_startJoin {s u : State} {i : SlotId} {g g' : Machine.Group} {r : Radio} {e : RegEntry}
    {j : PendingJoin} (hg : s.group i = some g) (hnone : g.join = none) (he : s.entry r = some e) (hpin : e.pinned = none)
    (hu : ∀ k, u.group k = if k = i then some g' else s.group k) (hr : g'.radios = g.radios) (hj : g'.join = some j)
    (hjr : j.radio = r) (ht : u.table = (s.pin r i).table) (h : s.RadiosSound) : u.RadiosSound := by
  obtain ⟨hone, hcap, hpinned, hjoined⟩ := h
  have hradios : radiosAt u = radiosAt s := funext fun k => by
    rw [radiosAt, hu]
    split
    · next hk => subst hk; simp [radiosAt, hg, hr]
    · rfl
  have hjoins : ∀ k, joinAt u k = if k = i then some r else joinAt s k := fun k => by
    rw [joinAt, hu]
    split
    · simp [hj, hjr]
    · rfl
  have hfree : joinAt s i = none := by simp [joinAt, hg, hnone]
  refine ⟨?_, ?_, fun x hx k hk => ?_, fun k x hk => ?_⟩
  · rw [knownRadios_eq] at hone ⊢
    rw [ht, hradios, pin_radios]
    exact hone
  · rw [ht]
    simpa [State.pin] using hcap
  · refine (hjoins k).trans ?_
    rw [ht] at hx
    obtain ⟨y, hy, hyx⟩ := List.mem_map.mp hx
    split at hyx
    · next hyr =>
      subst hyx
      cases hk
      rw [if_pos rfl]
      exact congrArg some hyr.symm
    · subst hyx
      have hold := hpinned y hy k hk
      have hki : k ≠ i := by
        rintro rfl
        have := hfree.symm.trans hold
        cases this
      rw [if_neg hki]
      exact hold
  · have hentry : u.entry x = (s.pin r i).entry x := by rw [State.entry, State.entry, ht]
    rw [hentry]
    have hk' := (hjoins k).symm.trans hk
    split at hk'
    · next hki =>
      cases hk'
      have hself : (s.pin r i).entry r = some { e with pinned := some i } := entry_map_self he fun _ => rfl
      rw [hself, hki]
      rfl
    · have hold := hjoined k x hk'
      have hne : x ≠ r := by
        rintro rfl
        rw [he] at hold
        have : e.pinned = some k := hold
        rw [hpin] at this
        cases this
      have hsame : (s.pin r i).entry x = s.entry x := entry_map_ne _ _ hne fun _ => rfl
      rw [hsame]
      exact hold

theorem calm_startJoin {s : State} {i : SlotId} {g : Machine.Group} {r : Radio} {e : RegEntry} (hg : s.group i = some g)
    (hnone : g.join = none) (hs : InService g) (hcrew : g.crew.length < 4) (he : s.entry r = some e)
    (hpin : e.pinned = none) : Calm X E s (s.startJoin i r) := by
  set j : PendingJoin := { radio := r, expiry := s.now + 1000 * s.device.joinTimeout } with hj
  set g' := noticed { g with join := some j } (.joinRequest r) .leader with hg'
  have hpinned : (s.pin r i).group i = some g := hg
  have hform : s.startJoin i r = (s.pin r i).setSlot i { changed := true, body := .held g' } := by
    rw [State.startJoin, modGroup_eq _ hpinned, mark_setSlot, toLeader_setSlot]
  have hlocal := Local.setSlot (s.pin r i) i { changed := true, body := .held g' }
  have hgroups : ∀ k, (s.startJoin i r).group k = if k = i then some g' else s.group k := fun k => by
    rw [hform]
    split
    · next hk => rw [hk, group_setSlot_held]
    · next hk => rw [group_setSlot_ne _ _ (Ne.symm hk)]; rfl
  have hself := (hgroups i).trans (if_pos rfl)
  have hfine : Fine s.device.warn g g' := ⟨fun h => sound_noticed _ _ { h with join := fun _ => ⟨hs, hcrew⟩ },
    fun _ => warnOk_congr rfl rfl rfl⟩
  refine ⟨⟨by rw [hform]; rfl, fun c => by rw [hform]; exact .refl _, fun k hk => ?_, ?_⟩,
    ⟨fun c => by rw [hform]; rfl, fun k c p => ?_, fun k x hx => ?_⟩, fun _ hf => ?_⟩
  · by_cases hki : k = i
    · subst hki
      rw [hself, hg]
      exact .of_fine hfine
    · rw [hgroups, if_neg hki]
      exact .refl _ _
  · exact radiosSound_startJoin hg hnone he hpin hgroups rfl (j := j) rfl rfl (by rw [hform]; rfl)
  · by_cases hki : k = i
    · subst hki
      rw [hself, hg]
      have : g'.holds c p ↔ g.holds c p := Iff.rfl
      simp [this]
    · rw [hgroups, if_neg hki]
  · by_cases hki : k = i
    · subst hki
      rw [hself] at hx
      cases hx
      exact ⟨g, hg, rfl, rfl⟩
    · rw [hgroups, if_neg hki] at hx
      exact ⟨x, hx, rfl, rfl⟩
  · rw [hform]
    refine hlocal.toShift.floors hpinned (group_setSlot_held ..) (fun _ h => h)
      (fun x hx => .inl fun hsv hmv => ⟨rfl, hsv, hmv, hx⟩) ?_
    exact floorsBut_congr (fun _ => rfl) (fun _ => rfl) hf

theorem calm_joinAct {s : State} {f : UplinkFrame} {e : RegEntry} (c : Chan) (he : s.entry f.sender = some e)
    (hpin : e.pinned = none) : Calm X E s (s.joinAct c f e) := by
  unfold State.joinAct
  split
  · exact calm_channelFrame s _ _ _ _
  · split
    · exact calm_channelFrame s _ _ _ _
    · split
      · exact .refl X E s
      · next g hg =>
        split
        · exact calm_channelFrame s _ _ _ _
        · next hpass =>
          unfold State.joinRefusal at hpass
          split at hpass
          · cases hpass
          · next hs =>
            split at hpass
            · cases hpass
            · next hcrew =>
              split at hpass
              · cases hpass
              · next hjoin =>
                exact calm_startJoin hg (by simpa using hjoin) (not_not.mp hs) (not_not.mp hcrew) he hpin

theorem calm_refuseAct (s : State) (f : UplinkFrame) (i : SlotId) : Calm X E s (s.refuseAct f i) := by
  unfold State.refuseAct
  split
  · exact .refl X E s
  · split
    · exact (calm_cancelJoin s i false).1.calm (calm_cancelJoin (X := X) (E := E) s i false).2
    · exact calm_toRadio s i _ _

/-! ### Handing over the lead -/

theorem sound_handTo {g : Machine.Group} {r : Radio} {m : Member} (hm : g.crew.find? (fun x => x.radio == r) = some m)
    (h : g.Sound) : (g.handTo m).Sound := by
  have hmem := List.mem_of_find?_eq_some hm
  have hfound : ∃ k, k < g.crew.length ∧ g.removeCrew m.radio = { g with
      crew := g.crew.eraseIdx k,
      pointer := if g.crew.length ≤ 1 then none else adjustPointer g.pointer k } := by
    unfold Group.removeCrew
    cases hk : g.crew.findIdx? fun x => x.radio == m.radio with
    | none => exact absurd (List.findIdx?_eq_none_iff.mp hk m hmem) (by simp)
    | some k => exact ⟨k, (List.findIdx?_eq_some_iff_findIdx_eq.mp hk).1, rfl⟩
  obtain ⟨k, hk, he⟩ := hfound
  have hrem := sound_removeCrew m.radio h
  rw [Group.handTo, he] at *
  obtain ⟨h1, h2, h3, h4, h5, -, h7, hl, hd, hcrew, hlen, hpos, hptr, hdrop, hq⟩ := hrem
  have hlength : (g.crew.eraseIdx k).length = g.crew.length - 1 := List.length_eraseIdx_of_lt hk
  have hsame : (g.crew.eraseIdx k ++ [g.leader]).length = g.crew.length := by
    rw [List.length_append, hlength]
    simp only [List.length_cons, List.length_nil]
    omega
  obtain ⟨-, -, hcrew', hlen', -⟩ := h.size
  refine ⟨h1, h2, h3, h4, h5, fun hj => ⟨(h.join hj).1, ?_⟩, h7, hl, hcrew' m hmem, fun x hx => ?_, ?_, hpos,
    fun x hx => ?_, hdrop, hq⟩
  · rw [hsame]
    exact (h.join hj).2
  · rcases List.mem_append.mp hx with hx | hx
    · exact hcrew x hx
    · rw [List.mem_singleton.mp hx]
      exact hd
  · rw [hsame]
    exact hlen'
  · have := hptr x hx
    rw [hsame]
    simp only [hlength] at this
    omega

theorem radios_handTo {g : Machine.Group} {r : Radio} {m : Member}
    (hm : g.crew.find? (fun x => x.radio == r) = some m) : (g.handTo m).radios.Perm g.radios := by
  obtain ⟨ms, p, he, hms⟩ := handTo_shape g m
  have hmem : m.radio ∈ g.crew.map (·.radio) := List.mem_map_of_mem (List.mem_of_find?_eq_some hm)
  rw [he]
  simp only [Group.radios]
  rw [hms]
  refine List.Perm.cons _ ?_
  calc m.radio :: ((g.crew.map (·.radio)).erase m.radio ++ [g.leader.radio])
      = (m.radio :: (g.crew.map (·.radio)).erase m.radio) ++ [g.leader.radio] := rfl
    _ |>.Perm (g.crew.map (·.radio) ++ [g.leader.radio]) := (List.perm_cons_erase hmem).symm.append_right _
    _ |>.Perm (g.leader.radio :: g.crew.map (·.radio)) := List.perm_append_singleton _ _

theorem tame_handed (w : Nat) {g : Machine.Group} {r : Radio} {m : Member}
    (hm : g.crew.find? (fun x => x.radio == r) = some m) (n : Notice) (d : NoticeTo) :
    Tame w g (judged w (noticed (g.handTo m) n d)) := by
  have hperm := radios_handTo hm
  obtain ⟨ms, p, he, -⟩ := handTo_shape g m
  have hk : Keeps g (g.handTo m) := by
    refine ⟨?_, ?_, ?_, ?_, hperm.subperm, ?_⟩ <;> rw [he]
  have hs : (g.handTo m).state = g.state := by rw [he]
  have hj := tame_judged w (noticed (g.handTo m) n d)
  have hn := tame_noticed w (g.handTo m) n d
  refine ⟨(hk.trans hn.keeps).trans hj.keeps, ⟨fun h => hj.fine.sound (hn.fine.sound (sound_handTo hm h)),
    fun _ _ => warnOk_judged w _⟩, fun hv => ?_⟩
  obtain ⟨hv', hsub⟩ := (hn.serves.trans hj.serves) ((inService_congr hs).mpr hv)
  exact ⟨hv', fun x hx => hsub (hperm.symm.subset hx)⟩

theorem calm_handAct (s : State) (f : UplinkFrame) (i : SlotId) : Calm X E s (s.handAct f i) := by
  unfold State.handAct
  split
  · exact .refl X E s
  · next g hg =>
    split
    · exact calm_toRadio s i _ _
    · next m hm =>
      split
      · exact calm_toRadio s i _ _
      · have hform : (((s.modGroup i fun g => g.handTo m).toRadio i m.radio .leaderNow).mark i).judgeWarn i
            = s.setSlot i { changed := true || turns s.device.warn (noticed (g.handTo m) .leaderNow (.radio m.radio)),
                            body := .held (judged s.device.warn (noticed (g.handTo m) .leaderNow (.radio m.radio))) } := by
          rw [modGroup_eq _ hg, toRadio_eq _ _ (group_setSlot_held ..), slot_setSlot_self, setSlot_setSlot, mark_setSlot,
            judgeWarn_setSlot]
        have hcalm : Calm X E s
            ((((s.modGroup i fun g => g.handTo m).toRadio i m.radio .leaderNow).mark i).judgeWarn i) := by
          rw [hform]
          exact calm_setSlot _ hg (tame_handed _ hm _ _)
        dsimp only
        split
        · exact hcalm.trans (calm_addCause _ i (by simp))
        · exact hcalm

/-! ### RESUME -/

theorem local_resumeBeat (i : SlotId) (s : State) (g : Machine.Group) (st : GroupState) : Local i s (s.resumeBeat g st) := by
  unfold State.resumeBeat
  split
  · dsimp only
    split
    · exact .withdraw i s _ _ _
    · exact (Local.withdraw i s _ _ _).trans (.raise i _ _ _ _ _)
  · exact .refl i s

theorem local_resumeOld (i : SlotId) (s : State) (g : Machine.Group) : Local i s (s.resumeOld g) := by
  unfold State.resumeOld
  split
  · exact .refl i s
  · exact .withdraw i s _ _ _

theorem sound_resumed {g : Machine.Group} (w : Nat) (hs : g.state = .halt) (hc : g.causes = {}) (h : g.Sound) :
    ({ g with state := g.resumed w } : Machine.Group).Sound := by
  have hout : ¬ (g.state = .active ∨ g.state = .degraded) := by rw [hs]; simp
  have hwait := h.wait
  unfold Group.WaitSound at hwait
  simp only [hs] at hwait
  refine { h with
    causes := fun _ => hc
    order := fun ho => absurd (h.order ho).1 hout
    approach := fun ha => absurd (h.approach ha) hout
    wait := ?_
    join := fun hj => absurd (h.join hj).1 hout
    move := ⟨fun m hm => ⟨?_, (h.move.1 m hm).2⟩, h.move.2⟩ }
  · unfold Group.WaitSound Group.resumed
    cases hw : g.wait with
    | none => cases g.warned w <;> simp
    | some x =>
      cases hk : x.kind with
      | attach => simp [hk]
      | release => rw [hw] at hwait; simp [hk] at hwait
  · have hnone := (h.move.1 m hm).2.1
    show g.resumed w = .active ∨ g.resumed w = .degraded ∨ g.resumed w = .halt
    unfold Group.resumed
    rw [hnone]
    simp only [Option.any_none, Bool.false_eq_true, if_false]
    split <;> simp

theorem warnOk_resumed (w : Nat) (g : Machine.Group) : WarnOk w { g with state := g.resumed w } := by
  have hw : ({ g with state := g.resumed w } : Machine.Group).warned w = g.warned w := rfl
  unfold WarnOk
  rw [hw]
  dsimp only
  unfold Group.resumed
  split
  · simp
  · split
    · next h => simp [h]
    · next h => simpa using h

theorem calm_resumeAct (s : State) (f : UplinkFrame) (i : SlotId) : Calm X E s (s.resumeAct f i) := by
  unfold State.resumeAct
  split
  · exact .refl X E s
  · next g hg =>
    split
    · next hs =>
      split
      · next hc =>
        have hempty : g.causes = {} := (isEmpty_iff _).mp hc
        set g' := noticed { g with state := g.resumed s.device.warn } (.resumed (g.resumed s.device.warn)) .leader with hg'
        have hform : ((s.modGroup i fun x => { x with state := g.resumed s.device.warn }).toLeader i
            (.resumed (g.resumed s.device.warn))).mark i = s.setSlot i { changed := true, body := .held g' } := by
          rw [modGroup_eq _ hg, toLeader_setSlot, mark_setSlot]
        dsimp only
        rw [hform]
        have hfirst : Calm X E s (s.setSlot i { changed := true, body := .held g' }) :=
          (Local.setSlot s i _).calm hg (group_setSlot_held ..) (keeps_rfl rfl rfl rfl rfl rfl rfl)
            (fun _ => ⟨fun h => sound_noticed _ _ (sound_resumed _ hs hempty h),
              fun _ _ => warnOk_congr rfl rfl rfl (warnOk_resumed _ g)⟩)
            (.of_idle fun hi => by rcases hi.1 with h | h <;> rw [hs] at h <;> cases h)
        set v := s.setSlot i { changed := true, body := .held g' } with hv
        have hbeat := local_resumeBeat i v g (g.resumed s.device.warn)
        have hgroup : ∀ u : State, (u.resumeBeat g (g.resumed s.device.warn)).group i = u.group i := fun u => by
          unfold State.resumeBeat
          split
          · dsimp only
            split <;> rfl
          · rfl
        have hold : ∀ u : State, (u.resumeOld g).group i = u.group i := fun u => by
          unfold State.resumeOld
          split <;> rfl
        exact (hfirst.trans (hbeat.calm_of_groups (hgroup v))).trans ((local_resumeOld i _ g).calm_of_groups (hold _))
      · exact calm_toLeader s i _
    · exact calm_toRadio s i _ _

/-! ### Timers -/

theorem calm_exempt_modGroup {s : State} {i : SlotId} {g : Machine.Group} {f : Machine.Group → Machine.Group}
    (hX : X i) (hg : s.group i = some g) (hk : Keeps g (f g)) (hs : Serves g (f g)) : Calm X E s (s.modGroup i f) :=
  calm_modGroup_unless hg hk hs fun h => absurd hX h

/-- R111: a record whose STOP timed out. -/
def stopLost (g : Machine.Group) (o : Order) : Machine.Group :=
  { noticed { g with order := none } (.unconfirmed o.seq) .leader with unconfirmed := some o.seq }

theorem sound_stopLost {g : Machine.Group} {x : OrderInFlight} (ho : g.order = some x) (h : g.Sound) :
    (caused (stopLost g x.order) (Causes.single .stopUnconfirmed)).Sound := by
  have hservice := (h.order (by rw [ho]; rfl)).1
  have henters : (stopLost g x.order).state.entersHalt = true := entersHalt_of_inService hservice
  have hnone : (stopLost g x.order).causes = {} := h.causes henters
  unfold caused
  rw [if_neg (by rw [hnone, empty_union]; exact single_ne_empty _), if_pos henters]
  obtain ⟨hl, hd, hcrew, hlen, hpos, hptr, hdrop, -⟩ := h.size
  refine sound_noticed _ _ (sound_halting ?_ (wait_of_enters (g := g) h henters) (moves_of_sound (g := g) h) h.move.2
    ⟨hl, hd, hcrew, hlen, hpos, hptr, hdrop, pushNotice_bound _ _⟩)
  show true = ((stopLost g x.order).causes.union (Causes.single .stopUnconfirmed)).stopUnconfirmed
  rw [hnone]
  rfl

theorem calm_loseOrder {s : State} {i : SlotId} {g : Machine.Group} {x : OrderInFlight} (hg : s.group i = some g)
    (ho : g.order = some x) : Calm X E s (s.loseOrder i x.order) := by
  have hfirst : ∀ Y : SlotId → Prop, Calm Y E s (((s.dropOrder i).toLeader i (.unconfirmed x.order.seq)).mark i) :=
    fun Y => ((calm_dropOrder s i).trans (calm_toLeader _ i _)).trans (calm_mark _ i)
  unfold State.loseOrder
  dsimp only
  split
  · have hnoticed : (((s.dropOrder i).toLeader i (.unconfirmed x.order.seq)).mark i).group i
        = some (noticed { g with order := none } (.unconfirmed x.order.seq) .leader) := by
      rw [group_mark, toLeader_eq _ (group_of_body (by rw [slot_dropOrder hg])), group_setSlot_held]
    have hlost : ((((s.dropOrder i).toLeader i (.unconfirmed x.order.seq)).mark i).modGroup i fun g =>
        { g with unconfirmed := some x.order.seq }).group i = some (stopLost g x.order) := by
      rw [group_modGroup_self, hnoticed]
      rfl
    refine Calm.settle (i := i) (((hfirst _).trans (calm_exempt_modGroup (Or.inr rfl) hnoticed
      (keeps_rfl rfl rfl rfl rfl rfl rfl) fun h => ⟨h, fun _ hr => hr⟩)).trans
      (calm_addCauses_exempt (Or.inr rfl) (Causes.single .stopUnconfirmed))) fun _ => ?_
    rw [State.addCause, group_addCauses _ hlost, hg]
    refine ⟨fun h y hy => ?_, fun h _ y hy => ?_⟩
    · cases hy
      exact sound_stopLost ho (h g rfl)
    · cases hy
      have hservice := ((h g rfl).order (by rw [ho]; rfl)).1
      have henters : (stopLost g x.order).state.entersHalt = true := entersHalt_of_inService hservice
      have hnone : (stopLost g x.order).causes = {} := (h g rfl).causes henters
      unfold caused
      rw [if_neg (by rw [hnone, empty_union]; exact single_ne_empty _), if_pos henters]
      refine warnOk_halted _ ?_
      obtain ⟨ns, hns⟩ := halting_shape { stopLost g x.order with
        causes := (stopLost g x.order).causes.union (Causes.single .stopUnconfirmed) }
      rw [hns]
      rfl
  · exact hfirst X

theorem calm_orderExpiry (s : State) (i : SlotId) : Calm X E s (s.orderExpiry i) := by
  unfold State.orderExpiry
  split
  · exact .refl X E s
  · next g hg =>
    split
    · exact .refl X E s
    · next x ho =>
      split
      · exact calm_loseOrder hg ho
      · exact .refl X E s

/-- R42, R84: a lost release halts the group with its recorded causes. -/
theorem calm_loseRelease (s : State) (i : SlotId) : Calm X E s (s.loseRelease i) := by
  cases hg : s.group i with
  | none =>
    have hfree : ∀ f, s.modGroup i f = s := fun f => modGroup_free f hg
    rw [State.loseRelease, hfree]
    have hmark : (s.mark i).group i = none := by rw [group_mark]; exact hg
    have henter : (s.mark i).enterHalt i = s.mark i := by simp only [State.enterHalt, hmark]
    rw [henter]
    exact calm_mark s i
  | some g =>
    set g' : Machine.Group := { g with wait := none, causes := g.causes.add .releaseLost } with hg'
    have hmarked : ((s.modGroup i fun g => { g with wait := none, causes := g.causes.add .releaseLost }).mark i).group i
        = some g' := by
      rw [group_mark, group_modGroup_self, hg]
      rfl
    refine Calm.settle (i := i) (((calm_exempt_modGroup (Or.inr rfl) hg (keeps_rfl rfl rfl rfl rfl rfl rfl)
      fun h => ⟨h, fun _ hr => hr⟩).trans (calm_mark _ i)).trans (calm_enterHalt (Or.inr rfl))) fun _ => ?_
    have hfinal := slot_enterHalt hmarked
    rw [State.loseRelease, group_of_body (congrArg Slot.body hfinal), hg]
    refine .of_fine ⟨fun h => sound_noticed _ _ (sound_halting ?_ (by simp [hg']) (fun m hm => ⟨rfl, ?_⟩) h.move.2 h.size),
      fun _ _ => warnOk_halted _ ?_⟩
    · show g.unconfirmed.isSome = (g.causes.add .releaseLost).stopUnconfirmed
      rw [h.stop]
      rfl
    · exact (moves_of_sound (g := g) h m hm).2
    · obtain ⟨ns, hns⟩ := halting_shape g'
      rw [hns]
      rfl

theorem calm_releaseExpiry (s : State) (i : SlotId) : Calm X E s (s.releaseExpiry i) := by
  unfold State.releaseExpiry
  split
  · exact calm_loseRelease s i
  · exact .refl X E s

theorem calm_joinExpiry (s : State) (i : SlotId) : Calm X E s (s.joinExpiry i) := by
  unfold State.joinExpiry
  split
  · exact .refl X E s
  · next g hg =>
    split
    · exact .refl X E s
    · next j hj =>
      split
      · exact (calm_endJoin (j := j) _ _ hg hj).1.calm (calm_endJoin (X := X) (E := E) (j := j) .noAnswer g.call hg hj).2
      · exact .refl X E s

theorem calm_talkExpiry (s : State) (c : Chan) : Calm X E s (s.talkExpiry c) := by
  unfold State.talkExpiry
  split
  · exact calm_endGrant s c
  · exact .refl X E s

end Sys2Proof.ActProofs
end

section
/-!
What a whole operation keeps: `Evolves s u` carries every invariant of the records from `s` to `u`, each under the invariants
that its own statement may use. The effect of every command is shown to evolve its state.
-/
namespace Sys2Proof.EvolvesProofs
open Sys2Proof Sys2Proof.Machine Sys2Proof.Machine.Laws Sys2Proof.CommandProofs Sys2Proof.DeviceProofs
  Sys2Proof.PortProofs Sys2Proof.SlotProofs Sys2Proof.RecordProofs Sys2Proof.FrameProofs Sys2Proof.FloorProofs
  Sys2Proof.HaltProofs Sys2Proof.MemberProofs Sys2Proof.ReleaseProofs Sys2Proof.EvolveProofs Sys2Proof.CalmProofs
  Sys2Proof.EntryProofs Sys2Proof.ActProofs

/-- Every invariant of the records is carried from `s` to `u`. -/
structure Evolves (s u : State) : Prop where
  channels : s.ChannelsSound → u.ChannelsSound
  groups : s.GroupsSound → u.GroupsSound
  warn : s.GroupsSound → s.WarnSound → u.WarnSound
  phases : s.GroupsSound → s.PhasesSound → u.PhasesSound
  radios : s.RadiosSound → u.RadiosSound
  floors : s.GroupsSound → s.PhasesSound → s.RadiosSound → s.ChannelsSound → s.FloorsSound → u.FloorsSound
  settings : s.SettingsSound → u.SettingsSound

theorem Evolves.refl (s : State) : Evolves s s := ⟨id, id, fun _ => id, fun _ => id, id, fun _ _ _ _ => id, id⟩

theorem Evolves.trans {a b c : State} (h : Evolves a b) (h' : Evolves b c) : Evolves a c where
  channels hc := h'.channels (h.channels hc)
  groups hg := h'.groups (h.groups hg)
  warn hg hw := h'.warn (h.groups hg) (h.warn hg hw)
  phases hg hp := h'.phases (h.groups hg) (h.phases hg hp)
  radios hr := h'.radios (h.radios hr)
  floors hg hp hr hc hf :=
    h'.floors (h.groups hg) (h.phases hg hp) (h.radios hr) (h.channels hc) (h.floors hg hp hr hc hf)
  settings hs := h'.settings (h.settings hs)

theorem Evolves.foldl {α : Type} {f : State → α → State} (h : ∀ s a, Evolves s (f s a)) (l : List α) (s : State) :
    Evolves s (l.foldl f s) := by
  induction l generalizing s with
  | nil => exact .refl s
  | cons a l ih => exact (h s a).trans (ih _)

theorem Evolves.ite {p : Prop} [Decidable p] {s a b : State} (ha : p → Evolves s a) (hb : ¬ p → Evolves s b) :
    Evolves s (if p then a else b) := by
  split
  · next h => exact ha h
  · next h => exact hb h

/-! ### From one slot and its channels -/

theorem chanStep_sound {a b : Channel} (h : ChanStep a b) (ha : a.Sound) : b.Sound := by
  obtain ⟨hq, hc⟩ := channel_sound_iff.mp ha
  exact channel_sound_iff.mpr ⟨h.queue _ hq, hc.congr h.core⟩

/-- R175, R185: the settings stand where the values and the channels' cores do. -/
theorem settingsSound_of {s u : State} (hv : valuesOf u = valuesOf s) (hc : ∀ c, coreOf (u.chan c) = coreOf (s.chan c))
    (h : s.SettingsSound) : u.SettingsSound := by
  have hprofile : u.profile = s.profile := congrArg (·.2.1) hv
  have hstoring : u.storing = s.storing := congrArg (·.2.2) hv
  refine ⟨device_of_values hv ▸ h.device, fun c => ?_, hprofile ▸ h.profile, hstoring ▸ h.storing⟩
  obtain ⟨-, -, -, -, -, hperiod, hpending, hconfig, -⟩ := core_fields (hc c)
  rw [hperiod, hpending, hconfig]
  exact h.channels c

/-- An operation whose slots all turn out well, given what it does to phases and floors. -/
theorem evolves_of_base {X : SlotId → Prop} {s u : State} (h : Base X s u)
    (hslots : ∀ i, X i → SlotStep s.device.warn (s.group i) (u.group i))
    (hphases : s.GroupsSound → s.PhasesSound → u.PhasesSound)
    (hfloors : s.GroupsSound → s.PhasesSound → s.RadiosSound → s.ChannelsSound → s.FloorsSound → u.FloorsSound) :
    Evolves s u := by
  have hstep : ∀ i, SlotStep s.device.warn (s.group i) (u.group i) := fun i => by
    by_cases hX : X i
    · exact hslots i hX
    · exact h.slots i hX
  exact {
    channels := fun hc c => chanStep_sound (h.chans c) (hc c)
    groups := fun hg i => (hstep i).sound (hg i)
    warn := fun hg hw i => device_of_values h.values ▸ (hstep i).warn (hg i) (hw i)
    phases := hphases
    radios := h.radios
    floors := hfloors
    settings := settingsSound_of h.values fun c => (h.chans c).core }

/-- Nothing is left out of the account. -/
def noSlot : SlotId → Prop := fun _ => False

def noHolder : Chan → Radio → Prop := fun _ _ => False

theorem evolves_of_mild {s u : State} (h : Mild noSlot noHolder s u)
    (hphases : s.GroupsSound → s.PhasesSound → u.PhasesSound) : Evolves s u :=
  evolves_of_base h.toBase (fun _ hX => hX.elim) hphases fun _ _ _ _ hf =>
    floorsSound_iff.mpr (h.floors (floorsSound_iff.mp hf))

theorem evolves_of_calm {s u : State} (h : Calm noSlot noHolder s u) : Evolves s u :=
  evolves_of_base h.toBase (fun _ hX => hX.elim) (fun _ => h.still.phasesSound) fun _ hp _ _ hf =>
    floorsSound_iff.mpr (h.floors (ownPhases_of_sound hp) (floorsSound_iff.mp hf))

/-- A change of what no invariant speaks of. -/
theorem evolves_of_eq {s u : State} (hs : u.slots = s.slots) (hc : u.chans = s.chans) (ht : u.table = s.table)
    (hv : valuesOf u = valuesOf s) : Evolves s u :=
  evolves_of_calm ((Local.of_eq 0 hs hc ht hv).calm_of_groups (group_congr hs 0))

theorem evolves_attend (s : State) (x : AttnItem) : Evolves s (s.attend x) := evolves_of_eq rfl rfl rfl rfl

theorem evolves_examine (s : State) (b : Bool) : Evolves s { s with examine := b } := evolves_of_eq rfl rfl rfl rfl

/-! ### Phases -/

/-- R55: the phases of a state whose other slots stand and whose occupancy agrees with slot `i`'s new record. -/
theorem phasesSound_of_slot {s u : State} {i : SlotId} (hothers : ∀ j, j ≠ i → u.group j = s.group j)
    (hocc : ∀ c p j, j ≠ i → ((u.chan c).occupancy.get p = some j ↔ (s.chan c).occupancy.get p = some j))
    (hown : ∀ c p, (u.chan c).occupancy.get p = some i ↔ ∃ g, u.group i = some g ∧ g.holds c p)
    (h : s.PhasesSound) : u.PhasesSound := fun c p j => by
  by_cases hj : j = i
  · subst hj
    exact hown c p
  · rw [hocc c p j hj, hothers j hj]
    exact h c p j

theorem get_set_occupancy (v : Vector (Option SlotId) 8) (p q : Phase) (x : Option SlotId) :
    (v.set p x).get q = if p = q then x else v.get q := by
  have hval : (p : Nat) = (q : Nat) ↔ p = q := Fin.ext_iff.symm
  show (v.set p x)[q.val] = _
  rw [Vector.getElem_set]
  simp only [hval]
  rfl

theorem occupancy_setPhase (s : State) (c d : Chan) (p q : Phase) (x : Option SlotId) :
    ((s.modChan c fun ch => { ch with occupancy := ch.occupancy.set p x }).chan d).occupancy.get q
      = if c = d ∧ p = q then x else (s.chan d).occupancy.get q := by
  rw [chan_modChan]
  by_cases hc : c = d
  · subst hc
    simp only [if_pos, true_and, get_set_occupancy]
  · simp only [hc, false_and, if_false]

theorem occupancy_freePhase (s : State) (c d : Chan) (p q : Phase) :
    ((s.freePhase c p).chan d).occupancy.get q = if c = d ∧ p = q then none else (s.chan d).occupancy.get q :=
  occupancy_setPhase s c d p q none

theorem occupancy_takePhase (s : State) (c d : Chan) (p q : Phase) (i : SlotId) :
    ((s.takePhase c p i).chan d).occupancy.get q = if c = d ∧ p = q then some i else (s.chan d).occupancy.get q :=
  occupancy_setPhase s c d p q (some i)

/-- R55: a slot gives up the phases in `D`. -/
theorem phasesSound_freed {s u : State} {i : SlotId} {g : Machine.Group} {D : Chan → Phase → Prop}
    (hg : s.group i = some g) (hothers : ∀ j, j ≠ i → u.group j = s.group j)
    (hfreed : ∀ c p, D c p → (u.chan c).occupancy.get p = none)
    (hkept : ∀ c p, ¬ D c p → (u.chan c).occupancy.get p = (s.chan c).occupancy.get p)
    (hheld : ∀ c p, D c p → g.holds c p)
    (hholds : ∀ c p, (∃ g', u.group i = some g' ∧ g'.holds c p) ↔ g.holds c p ∧ ¬ D c p) (h : s.PhasesSound) :
    u.PhasesSound := by
  refine phasesSound_of_slot hothers (fun c p j hj => ?_) (fun c p => ?_) h
  · by_cases hD : D c p
    · have hat : (s.chan c).occupancy.get p = some i := (h c p i).mpr ⟨g, hg, hheld c p hD⟩
      rw [hfreed c p hD, hat]
      simp [Ne.symm hj]
    · rw [hkept c p hD]
  · rw [hholds]
    by_cases hD : D c p
    · simp [hfreed c p hD, hD]
    · rw [hkept c p hD, h c p i, hg]
      simp [hD]

/-- R55: a slot takes one free phase. -/
theorem phasesSound_taken {s u : State} {i : SlotId} {c₀ : Chan} {p₀ : Phase}
    (hothers : ∀ j, j ≠ i → u.group j = s.group j)
    (hocc : ∀ c p, (u.chan c).occupancy.get p = if c₀ = c ∧ p₀ = p then some i else (s.chan c).occupancy.get p)
    (hfree : (s.chan c₀).occupancy.get p₀ = none)
    (hholds : ∀ c p, (∃ g', u.group i = some g' ∧ g'.holds c p)
      ↔ (∃ g, s.group i = some g ∧ g.holds c p) ∨ c₀ = c ∧ p₀ = p) (h : s.PhasesSound) :
    u.PhasesSound := by
  refine phasesSound_of_slot hothers (fun c p j hj => ?_) (fun c p => ?_) h
  · rw [hocc]
    split
    · next hcp =>
      obtain ⟨rfl, rfl⟩ := hcp
      rw [hfree]
      simp [Ne.symm hj]
    · rfl
  · rw [hocc, hholds]
    by_cases hcp : c₀ = c ∧ p₀ = p
    · simp [hcp]
    · simpa [hcp] using h c p i

/-! ### From the channels alone -/

/-- A change of channels that leaves the phases, the floors and every slot alone. -/
theorem evolves_of_chans {s u : State} (hs : u.slots = s.slots) (ht : u.table = s.table)
    (hv : valuesOf u = valuesOf s) (hocc : ∀ c, (u.chan c).occupancy = (s.chan c).occupancy)
    (htalk : ∀ c, (u.chan c).talk = (s.chan c).talk) (hsound : ∀ c, (s.chan c).Sound → (u.chan c).Sound)
    (hsettings : s.SettingsSound → ∀ c, (u.chan c).config.InRange ∧ PeriodInRange (u.chan c).period
      ∧ ∀ p, (u.chan c).pendingPeriod = some p → PeriodInRange p) : Evolves s u := by
  have hg : ∀ i, u.group i = s.group i := group_congr hs
  have hdevice := device_of_values hv
  have hprofile : u.profile = s.profile := congrArg (·.2.1) hv
  have hstoring : u.storing = s.storing := congrArg (·.2.2) hv
  exact {
    channels := fun h c => hsound c (h c)
    groups := fun h i g hi => h i g (hg i ▸ hi)
    warn := fun _ h i g hi => hdevice ▸ h i g (hg i ▸ hi)
    phases := fun _ h c p i => by rw [hocc, hg]; exact h c p i
    radios := radiosSound_of_slots ht (fun i => by rw [radiosAt, radiosAt, hg]) fun i => by rw [joinAt, joinAt, hg]
    floors := fun _ _ _ _ h => floorsSound_iff.mpr (floorsBut_congr htalk hg (floorsSound_iff.mp h))
    settings := fun h => ⟨hdevice ▸ h.device, hsettings h, hprofile ▸ h.profile, hstoring ▸ h.storing⟩ }

/-- A write of one channel that leaves its phases and its floor alone. -/
theorem evolves_modChan (s : State) (c : Chan) (f : Channel → Channel)
    (hocc : (f (s.chan c)).occupancy = (s.chan c).occupancy) (htalk : (f (s.chan c)).talk = (s.chan c).talk)
    (hsound : (s.chan c).Sound → (f (s.chan c)).Sound)
    (hsettings : s.SettingsSound → (f (s.chan c)).config.InRange ∧ PeriodInRange (f (s.chan c)).period
      ∧ ∀ p, (f (s.chan c)).pendingPeriod = some p → PeriodInRange p) : Evolves s (s.modChan c f) := by
  have hcase : ∀ d, (s.modChan c f).chan d = s.chan d ∨ d = c ∧ (s.modChan c f).chan d = f (s.chan c) := fun d => by
    rw [chan_modChan]
    split
    · next h => exact .inr ⟨h.symm, rfl⟩
    · exact .inl rfl
  refine evolves_of_chans rfl rfl rfl (fun d => ?_) (fun d => ?_) (fun d hd => ?_) fun hs d => ?_ <;>
    rcases hcase d with h | ⟨rfl, h⟩ <;> rw [h]
  · exact hocc
  · exact htalk
  · exact hd
  · exact hsound hd
  · exact hs.channels d
  · exact hsettings hs

/-- A write of one channel whose settings stand as well. -/
theorem evolves_modChan_kept (s : State) (c : Chan) (f : Channel → Channel)
    (hocc : (f (s.chan c)).occupancy = (s.chan c).occupancy) (htalk : (f (s.chan c)).talk = (s.chan c).talk)
    (hconfig : (f (s.chan c)).config = (s.chan c).config) (hperiod : (f (s.chan c)).period = (s.chan c).period)
    (hpending : (f (s.chan c)).pendingPeriod = (s.chan c).pendingPeriod)
    (hsound : (s.chan c).Sound → (f (s.chan c)).Sound) : Evolves s (s.modChan c f) :=
  evolves_modChan s c f hocc htalk hsound fun hs => by rw [hconfig, hperiod, hpending]; exact hs.channels c

end Sys2Proof.EvolvesProofs
end

section
/-!
What the modem's reports, the hand-overs and the missed polls do to the records: each evolves the state.
-/
namespace Sys2Proof.AirProofs
open Sys2Proof Sys2Proof.Machine Sys2Proof.Machine.Laws Sys2Proof.CommandProofs Sys2Proof.DeviceProofs
  Sys2Proof.PortProofs Sys2Proof.SlotProofs Sys2Proof.RecordProofs Sys2Proof.FrameProofs Sys2Proof.FloorProofs
  Sys2Proof.HaltProofs Sys2Proof.MemberProofs Sys2Proof.ReleaseProofs Sys2Proof.EvolveProofs Sys2Proof.CalmProofs
  Sys2Proof.EntryProofs Sys2Proof.ActProofs Sys2Proof.EvolvesProofs

/-! ### A phase that a slot gives up -/

/-- A change of slot `i`'s record and of channels that frees the phases in `D` and no other. -/
structure Frees (i : SlotId) (D : Chan → Phase → Prop) (s u : State) : Prop extends Shift i s u where
  freed : ∀ d q, D d q → (u.chan d).occupancy.get q = none
  kept : ∀ d q, ¬ D d q → (u.chan d).occupancy.get q = (s.chan d).occupancy.get q

/-- One phase of one channel. -/
def place (c : Chan) (p : Phase) : Chan → Phase → Prop := fun d q => c = d ∧ p = q

theorem freed_freePhase (s : State) (c : Chan) (p : Phase) (d : Chan) (q : Phase) (h : place c p d q) :
    ((s.freePhase c p).chan d).occupancy.get q = none := by
  rw [occupancy_freePhase]
  exact if_pos h

theorem kept_freePhase (s : State) (c : Chan) (p : Phase) (d : Chan) (q : Phase) (h : ¬ place c p d q) :
    ((s.freePhase c p).chan d).occupancy.get q = (s.chan d).occupancy.get q := by
  rw [occupancy_freePhase]
  exact if_neg h

theorem Frees.freePhase (i : SlotId) (s : State) (c : Chan) (p : Phase) : Frees i (place c p) s (s.freePhase c p) :=
  ⟨.freePhase i s c p, freed_freePhase s c p, kept_freePhase s c p⟩

theorem Frees.after {i : SlotId} {D : Chan → Phase → Prop} {s v u : State} (h : Local i s v) (h' : Frees i D v u) :
    Frees i D s u :=
  ⟨h.toShift.trans h'.toShift, h'.freed, fun d q hD => by rw [h'.kept d q hD, h.occupancy]⟩

theorem Frees.then {i : SlotId} {D : Chan → Phase → Prop} {s v u : State} (h : Frees i D s v) (h' : Local i v u) :
    Frees i D s u :=
  ⟨h.toShift.trans h'.toShift, fun d q hD => by rw [h'.occupancy]; exact h.freed d q hD,
    fun d q hD => by rw [h'.occupancy]; exact h.kept d q hD⟩

theorem Frees.trans {i : SlotId} {D D' : Chan → Phase → Prop} {a b c : State} (h : Frees i D a b) (h' : Frees i D' b c) :
    Frees i (fun d q => D d q ∨ D' d q) a c := by
  refine ⟨h.toShift.trans h'.toShift, fun d q hD => ?_, fun d q hD => ?_⟩
  · by_cases hD' : D' d q
    · exact h'.freed d q hD'
    · rw [h'.kept d q hD']
      exact h.freed d q (hD.resolve_right hD')
  · rw [h'.kept d q fun hD' => hD (.inr hD'), h.kept d q fun hD' => hD (.inl hD')]

theorem Frees.congr {i : SlotId} {D D' : Chan → Phase → Prop} {s u : State} (h : Frees i D s u)
    (hD : ∀ c p, D c p ↔ D' c p) : Frees i D' s u :=
  ⟨h.toShift, fun d q hd => h.freed d q ((hD d q).mpr hd), fun d q hd => h.kept d q fun hd' => hd ((hD d q).mp hd')⟩

theorem group_freePhase (s : State) (c : Chan) (p : Phase) (i : SlotId) : (s.freePhase c p).group i = s.group i := rfl

/-! ### The completion of a move -/

/-- R156: a record whose move is complete. -/
def unmoved (g : Machine.Group) : Machine.Group := { g with move := none }

theorem sound_unmoved {g : Machine.Group} (h : g.Sound) : (unmoved g).Sound :=
  { h with order := fun ho => ⟨(h.order ho).1, rfl⟩, move := ⟨nofun, h.move.2⟩ }

theorem holds_unmoved {g : Machine.Group} {m : MoveRecord} (hm : g.move = some m) (h : g.Sound) (c : Chan) (p : Phase) :
    (unmoved g).holds c p ↔ g.holds c p ∧ ¬ (m.oldChan = c ∧ m.oldPhase = p) := by
  obtain ⟨-, -, hfinal, hother⟩ := h.move.1 m hm
  simp only [Group.holds, unmoved, hm, hfinal, reduceCtorEq, false_and, exists_false, or_false, Option.some.injEq,
    exists_eq_left']
  constructor
  · rintro ⟨hc, hp⟩
    exact ⟨.inl ⟨hc, hp⟩, fun h => hother (h.1.trans hc.symm)⟩
  · rintro ⟨hown | hold, hne⟩
    · exact hown
    · exact absurd hold hne

theorem phasesSound_unmoved {s u : State} {i : SlotId} {g : Machine.Group} {m : MoveRecord} (hg : s.group i = some g)
    (hm : g.move = some m) (hfrees : Frees i (place m.oldChan m.oldPhase) s u) {g' : Machine.Group} (hg' : u.group i = some g')
    (hsame : ∀ c p, g'.holds c p ↔ (unmoved g).holds c p) (hgroups : s.GroupsSound) (h : s.PhasesSound) :
    u.PhasesSound :=
  phasesSound_freed hg hfrees.others hfrees.freed hfrees.kept
    (fun c p hD => .inr (.inl ⟨m, hm, hD⟩)) (fun c p => by
      rw [hg']
      simp only [Option.some.injEq, exists_eq_left']
      exact (hsame c p).trans (holds_unmoved hm (hgroups i g hg) c p)) h

theorem completeMove_none {s : State} {i : SlotId} {g : Machine.Group} (hg : s.group i = some g) (hm : g.move = none) :
    s.completeMove i = s := by
  simp only [State.completeMove, hg, hm]

/-- R156: the end of a move with every member checked in. -/
theorem completeMove_done {s : State} {i : SlotId} {g : Machine.Group} {m : MoveRecord} (hg : s.group i = some g)
    (hm : g.move = some m) (hall : g.allChecked m = true) :
    Frees i (place m.oldChan m.oldPhase) s (s.completeMove i) ∧ (s.completeMove i).group i = some (unmoved g) := by
  have heq : s.completeMove i = ((((((s.modGroup i fun g => { g with move := none }).withdraw m.oldChan
      (.phase m.oldPhase) .move).withdraw m.oldChan (.phase m.oldPhase) .halt).freePhase m.oldChan m.oldPhase).orphanOn
      m.oldChan i fun _ => true).mark i) := by
    simp only [State.completeMove, hg, hm, hall, if_true]
  have hlocal := ((Local.modGroup s i fun g => { g with move := none }).trans
    (.withdraw i _ m.oldChan (.phase m.oldPhase) .move)).trans (.withdraw i _ m.oldChan (.phase m.oldPhase) .halt)
  have hfreed := Frees.after hlocal (.freePhase i _ m.oldChan m.oldPhase)
  rw [heq]
  refine ⟨hfreed.then ((Local.orphanOn i _ m.oldChan i fun _ => true).trans (.mark _ i)), ?_⟩
  rw [group_mark, group_orphanOn, group_freePhase, group_withdraw, group_withdraw, group_modGroup_self, hg]
  rfl

theorem evolves_unmoved {s u : State} {i : SlotId} {g : Machine.Group} {m : MoveRecord} (hg : s.group i = some g)
    (hm : g.move = some m) (hfrees : Frees i (place m.oldChan m.oldPhase) s u) (hg' : u.group i = some (unmoved g)) :
    Evolves s u := by
  refine evolves_of_mild (hfrees.toShift.mild hg hg' (.refl _) rfl
    (fun _ => ⟨sound_unmoved, fun _ => warnOk_congr rfl rfl rfl⟩) (.of_idle fun h => ?_))
    (phasesSound_unmoved hg hm hfrees hg' fun _ _ => Iff.rfl)
  rw [hm] at h
  cases h.2

theorem evolves_completeMove (s : State) (i : SlotId) : Evolves s (s.completeMove i) := by
  cases hg : s.group i with
  | none => simp only [State.completeMove, hg]; exact .refl s
  | some g =>
    cases hm : g.move with
    | none => rw [completeMove_none hg hm]; exact .refl s
    | some m =>
      by_cases hall : g.allChecked m = true
      · obtain ⟨hfrees, hg'⟩ := completeMove_done hg hm hall
        exact evolves_unmoved hg hm hfrees hg'
      · simp only [State.completeMove, hg, hm, if_neg hall]
        exact .refl s

theorem evolves_loseMember (s : State) (i : SlotId) (r : Radio) : Evolves s (s.loseMember i r) :=
  (evolves_of_calm (calm_loseCrew s i r)).trans (evolves_completeMove _ i)

theorem evolves_settleDeferred (s : State) (i : SlotId) : Evolves s (s.settleDeferred i) := by
  unfold State.settleDeferred
  split
  · exact .refl s
  · exact Evolves.foldl (f := fun s (m : Member) => s.loseMember i m.radio) (fun s m => evolves_loseMember s i m.radio) _ s

/-! ### Missed polls -/

theorem evolves_levelZero (s : State) (i : SlotId) (g : Machine.Group) (r : Radio) (role : Role) :
    Evolves s (s.levelZero i g r role) := by
  cases role with
  | loco => exact evolves_of_calm (calm_addCause s i (by simp))
  | leader => exact evolves_of_calm (calm_addCause s i (by simp))
  | crew => exact .ite (fun _ => .refl s) fun _ => evolves_loseMember s i r

/-- R68: a counted miss, up to what level 0 brings: the level, the mark of a crossing and the warn condition. -/
theorem lowered_eq {s : State} {i : SlotId} {g : Machine.Group} (hg : s.group i = some g) (r : Radio) (role : Role) (n : Nat)
    (p : Prop) [Decidable p] :
    ∃ b, (if p then (s.modGroup i fun g => g.setLevel r n role).mark i
        else s.modGroup i fun g => g.setLevel r n role).judgeWarn i
      = s.setSlot i { changed := b, body := .held (judged s.device.warn (g.setLevel r n role)) } := by
  have hform : ∃ b, (if p then (s.modGroup i fun g => g.setLevel r n role).mark i
      else s.modGroup i fun g => g.setLevel r n role)
        = s.setSlot i { changed := b, body := .held (g.setLevel r n role) } := by
    rw [modGroup_eq _ hg, mark_setSlot]
    split
    · exact ⟨_, rfl⟩
    · exact ⟨_, rfl⟩
  obtain ⟨b, hb⟩ := hform
  rw [hb, judgeWarn_setSlot]
  exact ⟨_, rfl⟩

theorem level_le_seven {g : Machine.Group} (h : g.Sound) (r : Radio) (role : Role) : g.levelOf r role ≤ 7 := by
  obtain ⟨hl, hd, hcrew, -⟩ := h.size
  cases role with
  | loco => exact hl
  | leader => exact hd
  | crew =>
    unfold Group.levelOf
    cases hf : g.crew.find? fun m => m.radio == r with
    | none => simp
    | some m => exact hcrew m (List.mem_of_find?_eq_some hf)

theorem evolves_countMiss {s : State} {i : SlotId} {g : Machine.Group} (x : Machine.Group) {r : Radio} {role : Role} {n : Nat}
    (hg : s.group i = some g) (hlevel : g.levelOf r role = n + 1) : Evolves s (s.countMiss i x r role n) := by
  obtain ⟨b, hb⟩ := lowered_eq hg r role n (s.device.warn < n + 1 ∧ n ≤ s.device.warn)
  have hlowered : Evolves s (s.setSlot i
      { changed := b, body := .held (judged s.device.warn (g.setLevel r n role)) }) := by
    have hserves := tame_judged_setLevel s.device.warn g r (Nat.zero_le 7) role
    obtain ⟨hk, hr, hs⟩ := setLevel_keeps g r n role
    have hj := tame_judged s.device.warn (g.setLevel r n role)
    refine evolves_of_calm (calm_assuming (P := n ≤ 7) hg (fun h => ?_) fun Y hn => (Local.setSlot s i _).calm hg
      (group_setSlot_held ..) (hk.trans hj.keeps) (fun hY => (tame_judged_setLevel _ g r (hn hY) role).fine)
      (.of_serves (hk.trans hj.keeps) fun hv => ?_))
    · have := level_le_seven h r role
      omega
    · obtain ⟨hv', hsub⟩ := hj.serves ((inService_congr hs).mpr hv)
      exact ⟨hv', fun x hx => hsub (hr ▸ hx)⟩
  unfold State.countMiss
  dsimp only
  rw [hb]
  exact hlowered.trans (.ite (fun _ => evolves_levelZero _ i x r role) fun _ => .refl _)

theorem tame_window (w : Nat) (g : Machine.Group) (x : Option AnswerWindow) : Tame w g { g with window := x } :=
  .plain (keeps_rfl rfl rfl rfl rfl rfl rfl) rfl rfl rfl rfl fun h => ⟨h.1, h.2, h.3, h.4, h.5, h.6, h.7, h.8⟩

theorem evolves_closeMissed (s : State) (i : SlotId) : Evolves s (s.closeMissed i) := by
  unfold State.closeMissed
  split
  · exact .refl s
  · next g hg =>
    split
    · exact .refl s
    · next w hw =>
      have hclosed : Evolves s (s.modGroup i fun g => { g with window := none }) :=
        evolves_of_calm (calm_modGroup s i _ fun g _ => tame_window _ g none)
      dsimp only
      split
      · exact hclosed
      · next role hrole =>
        split
        · exact hclosed
        · split
          · exact hclosed
          · next n hn =>
            refine hclosed.trans (evolves_countMiss (g := { g with window := none }) g
              (by rw [group_modGroup_self, hg]; rfl) ?_)
            refine Eq.trans ?_ hn
            cases role <;> rfl

theorem evolves_windowExpiry (s : State) (i : SlotId) : Evolves s (s.windowExpiry i) :=
  .ite (fun _ => evolves_closeMissed s i) fun _ => .refl s

/-! ### The hand-over -/

theorem tame_notices (w : Nat) (g : Machine.Group) (q : List GroupNotice) (hq : g.notices.length ≤ 4 → q.length ≤ 4) :
    Tame w g { g with notices := q } :=
  .plain (keeps_rfl rfl rfl rfl rfl rfl rfl) rfl rfl rfl rfl fun ⟨h1, h2, h3, h4, h5, h6, h7, hsize⟩ => by
    obtain ⟨hl, hd, hcrew, hlen, hpos, hptr, hdrop, hn⟩ := hsize
    exact ⟨h1, h2, h3, h4, h5, h6, h7, hl, hd, hcrew, hlen, hpos, hptr, hdrop, hq hn⟩

theorem evolves_tailNotices (s : State) (c : Chan) :
    Evolves s (s.modChan c fun ch => { ch with notices := ch.notices.tail }) :=
  evolves_of_calm ((Local.modChan 0 s c _ (.notices _ fun h => by rw [List.length_tail]; omega) rfl rfl).calm_of_groups rfl)

theorem evolves_withdraw (s : State) (c : Chan) (src : Source) (k : ReqKind) : Evolves s (s.withdraw c src k) :=
  evolves_of_calm (calm_withdraw s c src k)

theorem evolves_raise (s : State) (c : Chan) (src : Source) (k : ReqKind) (b : ReqBody) :
    Evolves s (s.raise c src k b) := evolves_of_calm (calm_raise s c src k b)

theorem evolves_takeRequest (s : State) (c : Chan) (r : Request) : Evolves s (s.takeRequest c r) := by
  unfold State.takeRequest
  split
  · split
    · exact .refl s
    · exact evolves_of_calm (calm_modGroup s _ _ fun g _ => tame_notices _ g _ fun h => by rw [List.length_tail]; omega)
  · exact evolves_tailNotices s c
  · exact evolves_tailNotices s c
  · exact evolves_withdraw s c _ _

theorem evolves_beforeHandOver (s : State) (c : Chan) (r : Request) : Evolves s (s.beforeHandOver c r) := by
  unfold State.beforeHandOver
  split
  · split
    · exact .refl s
    · exact evolves_closeMissed s _
  · exact .refl s

/-- What is on the air, and the end of the last transmission, no invariant reads. -/
theorem evolves_air (s : State) (c : Chan) (f : Channel → Option Frame) (e : Channel → Option Instant) :
    Evolves s (s.modChan c fun ch => { ch with inFlight := f ch, lastTxEnd := e ch }) :=
  evolves_modChan_kept s c _ rfl rfl rfl rfl rfl fun ⟨h1, h2, h3, h4, h5, h6, h7, h8, h9, h10⟩ =>
    ⟨h1, h2, h3, h4, h5, h6, h7, h8, h9, h10⟩

theorem evolves_handOver (s : State) (c : Chan) (r : Request) : Evolves s (s.handOver c r) := by
  have hjudged := (evolves_takeRequest s c r).trans (evolves_beforeHandOver _ c r)
  exact hjudged.trans (evolves_air _ c (fun _ => some (s.frameOf ((s.takeRequest c r).beforeHandOver c r) c r))
    fun ch => ch.lastTxEnd)

/-! ### Reports -/

theorem tame_advance (w : Nat) (g : Machine.Group) (target : Radio) (pos : Nat) : Tame w g (g.advance target pos) :=
  .plain (keeps_rfl rfl rfl rfl rfl rfl rfl) rfl rfl rfl rfl fun ⟨h1, h2, h3, h4, h5, h6, h7, hsize⟩ => by
    obtain ⟨hl, hd, hcrew, hlen, hpos, hptr, hdrop, hn⟩ := hsize
    refine ⟨h1, h2, h3, h4, h5, h6, h7, hl, hd, hcrew, hlen, Nat.mod_lt _ (by omega), fun k hk => ?_, hdrop, hn⟩
    simp only [Group.advance] at hk
    split at hk
    · split at hk
      · next n hn =>
        cases hk
        exact (List.findIdx?_eq_some_iff_findIdx_eq.mp hn).1
      · exact hptr k hk
    · exact hptr k hk

theorem evolves_openWindow (s : State) (c : Chan) (i : SlotId) (r : Radio) : Evolves s (s.openWindow c i r) := by
  unfold State.openWindow
  split
  · exact .refl s
  · exact .ite (fun _ => evolves_of_calm (calm_modGroup s i _ fun g _ => tame_window _ g _)) fun _ => .refl s

theorem tame_undropped (w : Nat) (g : Machine.Group) : Tame w g { g with dropped := 0 } :=
  .plain (keeps_rfl rfl rfl rfl rfl rfl rfl) rfl rfl rfl rfl fun ⟨h1, h2, h3, h4, h5, h6, h7, hsize⟩ => by
    obtain ⟨hl, hd, hcrew, hlen, hpos, hptr, -, hn⟩ := hsize
    exact ⟨h1, h2, h3, h4, h5, h6, h7, hl, hd, hcrew, hlen, hpos, hptr, Nat.zero_le 4, hn⟩

theorem evolves_beatDone (s : State) (c : Chan) (i : SlotId) (r : Radio) (n : Nat) : Evolves s (s.beatDone c i r n) := by
  unfold State.beatDone
  split
  · exact .refl s
  · refine .ite (fun _ => ?_) fun _ => .refl s
    have hcounted := calm_modGroup (X := noSlot) (E := noHolder) s i (fun g => { g with dropped := 0 }) fun g _ =>
      tame_undropped _ g
    have hremoved := hcounted.trans (calm_removeCause _ i (c := .starved) (by simp))
    have hadvanced := hremoved.trans (calm_modGroup _ i (fun g => g.advance r n) fun g _ => tame_advance _ g r n)
    exact ((evolves_of_calm hadvanced).trans (evolves_closeMissed _ i)).trans (evolves_openWindow _ c i r)

theorem evolves_beatRefused (s : State) (i : SlotId) : Evolves s (s.beatRefused i) := by
  unfold State.beatRefused
  split
  · exact .refl s
  · exact .ite (fun _ => evolves_of_calm (calm_dropBeat s i)) fun _ => .refl s

/-- R26, R42: a wait that becomes SENT is of the kind it was. -/
theorem tame_wait (w : Nat) {g : Machine.Group} {a b : AckWait} (ha : g.wait = some a) (hk : b.kind = a.kind) :
    Tame w g { g with wait := some b } :=
  .plain (keeps_rfl rfl rfl rfl rfl rfl rfl) rfl rfl rfl rfl fun h => { h with
    wait := by
      have hwait := h.wait
      unfold Group.WaitSound at hwait ⊢
      cases hs : g.state <;> simp_all
    move := ⟨fun m hm => absurd (h.move.1 m hm).2.1 (by rw [ha]; simp), h.move.2⟩ }

theorem evolves_waitSent (s : State) (i : SlotId) (k : WaitKind) : Evolves s (s.waitSent i k) := by
  refine evolves_of_calm (calm_modGroup s i _ fun g _ => ?_)
  split
  · exact .refl _ g
  · next w hw =>
    split
    · next h => exact tame_wait _ hw h.1.symm
    · exact .refl _ g

theorem evolves_waitRefused (s : State) (i : SlotId) (k : WaitKind) (x : ReqKind) (b : ReqBody) :
    Evolves s (s.waitRefused i k x b) := by
  unfold State.waitRefused
  split
  · exact .refl s
  · split
    · exact .refl s
    · exact .ite (fun _ => evolves_raise s _ _ _ _) fun _ => .refl s

theorem evolves_relayReport (s : State) (i : SlotId) (n : Nat) (b : Bool) : Evolves s (s.relayReport i n b) := by
  unfold State.relayReport
  split
  · exact .refl s
  · refine .ite (fun _ => .ite (fun _ => ?_) fun _ => evolves_raise s _ _ _ _) fun _ => .refl s
    exact evolves_of_calm (calm_modGroup s i _ fun g _ => .plain (keeps_rfl rfl rfl rfl rfl rfl rfl) rfl rfl rfl rfl
      fun h => { h with order := fun ho => h.order (by simpa using ho) })

/-- R158: a record whose final old-channel HALT is done. -/
theorem holds_unhalted {g : Machine.Group} {x : FinalHalt} (hf : g.finalHalt = some x) (h : g.Sound) (c : Chan) (p : Phase) :
    ({ g with finalHalt := none } : Machine.Group).holds c p ↔ g.holds c p ∧ ¬ (x.chan = c ∧ x.phase = p) := by
  have hmove : g.move = none := by
    cases hm : g.move with
    | none => rfl
    | some m => have := (h.move.1 m hm).2.2.1; rw [hf] at this; cases this
  have hother := h.move.2 x hf
  simp only [Group.holds, hmove, hf, reduceCtorEq, false_and, exists_false, or_false, false_or, Option.some.injEq,
    exists_eq_left']
  constructor
  · rintro ⟨hc, hp⟩
    exact ⟨.inl ⟨hc, hp⟩, fun h => hother (h.1.trans hc.symm)⟩
  · rintro ⟨hown | hold, hne⟩
    · exact hown
    · exact absurd hold hne

theorem evolves_endFinalHalt {s u : State} {i : SlotId} {g : Machine.Group} {x : FinalHalt} (hg : s.group i = some g)
    (hf : g.finalHalt = some x) (hfrees : Frees i (place x.chan x.phase) s u)
    (hg' : u.group i = some { g with finalHalt := none }) : Evolves s u := by
  refine evolves_of_mild (hfrees.toShift.mild hg hg' (.refl _) rfl
    (fun _ => ⟨fun h => { h with
      move := ⟨fun m hm => ⟨(h.move.1 m hm).1, (h.move.1 m hm).2.1, rfl, (h.move.1 m hm).2.2.2⟩, nofun⟩ },
      fun _ => warnOk_congr rfl rfl rfl⟩) fun r hr => .inl fun hs hm => ⟨rfl, hs, hm, hr⟩) fun hgroups h => ?_
  refine phasesSound_freed hg hfrees.others hfrees.freed hfrees.kept (fun c p hD => .inr (.inr ⟨x, hf, hD⟩))
    (fun c p => ?_) h
  rw [hg']
  simp only [Option.some.injEq, exists_eq_left']
  exact holds_unhalted hf (hgroups i g hg) c p

theorem evolves_oldHaltReport (s : State) (c : Chan) (i : SlotId) (src : Source) : Evolves s (s.oldHaltReport c i src) := by
  unfold State.oldHaltReport
  split
  · exact .refl s
  · next g hg =>
    split
    · exact .refl s
    · next x hx =>
      refine .ite (fun _ => evolves_endFinalHalt hg hx (.after (.modGroup s i _) (.freePhase i _ _ _)) ?_) fun _ => .refl s
      show (s.modGroup i fun g => { g with finalHalt := none }).group i = _
      rw [group_modGroup_self, hg]
      rfl

theorem evolves_moveRefused (s : State) (c : Chan) (i : SlotId) (src : Source) : Evolves s (s.moveRefused c i src) := by
  unfold State.moveRefused
  split
  · exact .refl s
  · split
    · exact .refl s
    · exact .ite (fun _ => evolves_raise s _ _ _ _) fun _ => .refl s

theorem evolves_groupDone (s : State) (c : Chan) (i : SlotId) (f : Frame) : Evolves s (s.groupDone c i f) := by
  unfold State.groupDone
  split
  · exact evolves_beatDone s c i _ _
  · exact evolves_beatDone s c i _ _
  · exact evolves_oldHaltReport s c i _
  · exact evolves_relayReport s i _ _
  · exact evolves_waitSent s i _
  · exact evolves_waitSent s i _
  · exact .refl s

theorem evolves_groupRefused (s : State) (c : Chan) (i : SlotId) (f : Frame) : Evolves s (s.groupRefused c i f) := by
  unfold State.groupRefused
  split
  · exact evolves_beatRefused s i
  · exact evolves_beatRefused s i
  · exact evolves_oldHaltReport s c i _
  · exact evolves_relayReport s i _ _
  · exact evolves_waitRefused s i _ _ _
  · exact evolves_waitRefused s i _ _ _
  · exact evolves_of_calm (calm_latch s i false)
  · exact evolves_of_calm (calm_modGroup s i _ fun g _ => tame_notices _ g _ (putBack_bound _))
  · exact evolves_moveRefused s c i _
  · exact .refl s

theorem evolves_channelRefused (s : State) (c : Chan) (f : Frame) : Evolves s (s.channelRefused c f) := by
  unfold State.channelRefused
  split
  · exact evolves_raise s _ _ _ _
  · exact evolves_raise s _ _ _ _
  · exact .ite (fun _ => evolves_raise s _ _ _ _) fun _ => .refl s
  · exact .ite (fun _ => .refl s) fun _ => evolves_raise s _ _ _ _
  · exact evolves_of_calm ((Local.modChan 0 s c _ (.notices _ (putBack_bound _)) rfl rfl).calm_of_groups rfl)
  · exact .refl s

theorem evolves_outcome (s : State) (c : Chan) (f : Frame) (done : Bool) : Evolves s (s.outcome c f done) := by
  unfold State.outcome
  refine .ite (fun _ => ?_) fun _ => .refl s
  split
  · exact .ite (fun _ => .refl s) fun _ => evolves_channelRefused s c f
  · exact .ite (fun _ => evolves_groupDone s c _ f) fun _ => evolves_groupRefused s c _ f
  · exact .refl s

theorem evolves_report (s : State) (c : Chan) (done : Bool) : Evolves s (s.report c done) := by
  unfold State.report
  split
  · exact .refl s
  · exact (evolves_air s c _ _).trans (evolves_outcome _ c _ done)

end Sys2Proof.AirProofs
end

section
/-!
The survey: what the forming of a result does, the samples, the phase instants and the cycle starts.
-/
namespace Sys2Proof.SurveyProofs
open Sys2Proof Sys2Proof.Machine Sys2Proof.Machine.Laws Sys2Proof.CommandProofs Sys2Proof.DeviceProofs
  Sys2Proof.PortProofs Sys2Proof.SlotProofs Sys2Proof.RecordProofs Sys2Proof.FrameProofs Sys2Proof.FloorProofs
  Sys2Proof.HaltProofs Sys2Proof.MemberProofs Sys2Proof.ReleaseProofs Sys2Proof.EvolveProofs Sys2Proof.CalmProofs
  Sys2Proof.EntryProofs Sys2Proof.ActProofs Sys2Proof.EvolvesProofs Sys2Proof.AirProofs

/-! ### The channels' cores -/

/-- Nothing of the channels changes but phases, requests, what is on the air, floors and notices. -/
def SameCore (s u : State) : Prop := ∀ c, coreOf (u.chan c) = coreOf (s.chan c)

theorem SameCore.refl (s : State) : SameCore s s := fun _ => rfl

theorem SameCore.trans {a b c : State} (h : SameCore a b) (h' : SameCore b c) : SameCore a c := fun d =>
  (h' d).trans (h d)

theorem sameCore_of_chans {s u : State} (h : u.chans = s.chans) : SameCore s u := fun c => by rw [chan_congr h]

theorem sameCore_of_base {X : SlotId → Prop} {s u : State} (h : Base X s u) : SameCore s u := fun c => (h.chans c).core

theorem sameCore_of_calm {s u : State} (h : Calm noSlot noHolder s u) : SameCore s u := sameCore_of_base h.toBase

theorem sameCore_of_shift {i : SlotId} {s u : State} (h : Shift i s u) : SameCore s u := fun c => (h.chans c).core

/-- The loss of deferred members leaves the table, the attention set and the channels' cores alone. -/
structure Aside (s u : State) : Prop where
  core : SameCore s u
  table : u.table = s.table
  attention : u.attention = s.attention

theorem Aside.refl (s : State) : Aside s s := ⟨.refl s, rfl, rfl⟩

theorem Aside.trans {a b c : State} (h : Aside a b) (h' : Aside b c) : Aside a c :=
  ⟨h.core.trans h'.core, h'.table.trans h.table, h'.attention.trans h.attention⟩

theorem Aside.foldl {α : Type} {f : State → α → State} (h : ∀ s a, Aside s (f s a)) (l : List α) (s : State) :
    Aside s (l.foldl f s) := by
  induction l generalizing s with
  | nil => exact .refl s
  | cons a l ih => exact (h s a).trans (ih _)

theorem endGrant_records (s : State) (c : Chan) :
    (s.endGrant c).table = s.table ∧ (s.endGrant c).attention = s.attention := by
  rcases endGrant_cases s c with ⟨-, heq⟩ | ⟨x, -, heq⟩ | ⟨x, q₁, y, q₂, j, role, g, -, -, -, -, -, -, -, -, heq⟩
  · rw [heq]
    exact ⟨rfl, rfl⟩
  · rw [heq]
    exact ⟨rfl, rfl⟩
  · rw [heq, refresh_eq_setSlot]
    exact ⟨rfl, rfl⟩

theorem aside_endGrant (s : State) (c : Chan) : Aside s (s.endGrant c) :=
  ⟨sameCore_of_calm (calm_endGrant s c), (endGrant_records s c).1, (endGrant_records s c).2⟩

theorem aside_withdrawFrom (s : State) (r : Radio) : Aside s (s.withdrawFrom r) :=
  .foldl (f := fun s c => if s.holdsFloor c r then s.endGrant c else s) (fun s c => by
    split
    · exact aside_endGrant s c
    · exact .refl s) channels s

theorem aside_loseCrew (s : State) (i : SlotId) (r : Radio) : Aside s (s.loseCrew i r) := by
  have h := aside_withdrawFrom (s.modGroup i fun g => ((g.removeCrew r).closeWindowOf r).uncheck r) r
  refine ⟨sameCore_of_calm (calm_loseCrew s i r), ?_, ?_⟩
  · simp only [State.loseCrew, mark_table, toLeader_table, h.table, modGroup_table]
  · simp only [State.loseCrew, mark_attention, toLeader_attention, h.attention, modGroup_attention]

theorem aside_completeMove (s : State) (i : SlotId) : Aside s (s.completeMove i) := by
  cases hg : s.group i with
  | none => simp only [State.completeMove, hg]; exact .refl s
  | some g =>
    cases hm : g.move with
    | none => rw [completeMove_none hg hm]; exact .refl s
    | some m =>
      by_cases hall : g.allChecked m = true
      · refine ⟨sameCore_of_shift (completeMove_done hg hm hall).1.toShift, (completeMove_done hg hm hall).1.table, ?_⟩
        simp [State.completeMove, hg, hm, hall]
      · simp only [State.completeMove, hg, hm, if_neg hall]
        exact .refl s

theorem aside_settleDeferred (s : State) (i : SlotId) : Aside s (s.settleDeferred i) := by
  unfold State.settleDeferred
  split
  · exact .refl s
  · exact Aside.foldl (f := fun s (m : Member) => s.loseMember i m.radio)
      (fun s m => (aside_loseCrew s i m.radio).trans (aside_completeMove _ i)) _ s

/-! ### Results -/

/-- R170: the settlement of a slot's deferred members where its group is on the channel. -/
def settledOn (c : Chan) (s : State) (i : SlotId) : State :=
  match s.group i with
  | none => s
  | some g => if g.channel = c then s.settleDeferred i else s

theorem aside_settledOn (c : Chan) (s : State) (i : SlotId) : Aside s (settledOn c s i) := by
  unfold settledOn
  split
  · exact .refl s
  · split
    · exact aside_settleDeferred s i
    · exact .refl s

theorem evolves_settledOn (c : Chan) (s : State) (i : SlotId) : Evolves s (settledOn c s i) := by
  unfold settledOn
  split
  · exact .refl s
  · exact .ite (fun _ => evolves_settleDeferred s i) fun _ => .refl s

/-- R166: a channel whose survey has formed its result and gone to `next`. -/
def formed (ch : Channel) (next : SurveyState) : Channel :=
  { ch with survey := { ch.survey.clearProgress with
      last := ch.survey.result, state := next, jammed := ch.jamAfter ch.survey.result } }

theorem modSurvey_setChan (s : State) (c : Chan) (v : Channel) (f : Survey → Survey) :
    (s.setChan c v).modSurvey c f = s.setChan c { v with survey := f v.survey } := by
  rw [State.modSurvey, modChan_setChan]

theorem modSurvey_eq (s : State) (c : Chan) (f : Survey → Survey) :
    s.modSurvey c f = s.setChan c { s.chan c with survey := f (s.chan c).survey } := rfl

theorem unjam_eq (s : State) (c : Chan) :
    s.unjam c = { slotIds.foldl (settledOn c) ((s.modSurvey c fun v => { v with jammed := false }).attend (.jamChange c))
      with examine := true } := rfl

/-- R163, R166, R170: the three ways a result leaves the jammed flag. -/
theorem concludeSurvey_cases (s : State) (c : Chan) (next : SurveyState) :
    ((s.chan c).jamAfter (s.chan c).survey.result = (s.chan c).survey.jammed
        ∧ s.concludeSurvey c next = s.setChan c (formed (s.chan c) next))
      ∨ ((s.chan c).survey.jammed = false ∧ (s.chan c).jamAfter (s.chan c).survey.result = true
        ∧ s.concludeSurvey c next = (s.setChan c (formed (s.chan c) next)).attend (.jamChange c))
      ∨ ((s.chan c).survey.jammed = true ∧ (s.chan c).jamAfter (s.chan c).survey.result = false
        ∧ s.concludeSurvey c next
          = { slotIds.foldl (settledOn c) ((s.setChan c (formed (s.chan c) next)).attend (.jamChange c))
              with examine := true }) := by
  set r := (s.chan c).survey.result with hr
  set v : Channel := { s.chan c with survey :=
    { (s.chan c).survey.clearProgress with last := r, state := next } } with hv
  have hconclude : s.concludeSurvey c next = (s.setChan c v).judgeJam c r := rfl
  have hchan : (s.setChan c v).chan c = v := chan_setChan_self s c v
  have hflag : ∀ b, { v with survey := { v.survey with jammed := b } }
      = { s.chan c with survey := { (s.chan c).survey.clearProgress with last := r, state := next, jammed := b } } :=
    fun _ => rfl
  have hsame : (s.chan c).jamAfter r = (s.chan c).survey.jammed → v = formed (s.chan c) next := fun h => by
    rw [formed, ← hr, h]
    rfl
  rw [hconclude]
  cases hcase : r with
  | none => exact .inl ⟨rfl, by rw [← hsame (by rw [hcase]; rfl)]; rfl⟩
  | noSample => exact .inl ⟨rfl, by rw [← hsame (by rw [hcase]; rfl)]; rfl⟩
  | level l p n =>
    have hjudge : (s.setChan c v).judgeJam c (.level l p n)
        = if (s.chan c).survey.jammed then (if l < (s.chan c).config.jamOff then (s.setChan c v).unjam c else s.setChan c v)
          else if (s.chan c).config.jamOn ≤ l then (s.setChan c v).jam c else s.setChan c v := by
      simp only [State.judgeJam, hchan]
      rfl
    rw [hjudge]
    have hafter : (s.chan c).jamAfter (.level l p n)
        = if (s.chan c).survey.jammed then decide ((s.chan c).config.jamOff ≤ l)
          else decide ((s.chan c).config.jamOn ≤ l) := rfl
    have hformed : ∀ b, (s.chan c).jamAfter (.level l p n) = b → formed (s.chan c) next
        = { v with survey := { v.survey with jammed := b } } := fun b hb => by
      rw [formed, ← hr, hcase, hb, hflag, hcase]
    cases hj : (s.chan c).survey.jammed with
    | false =>
      by_cases hon : (s.chan c).config.jamOn ≤ l
      · have hb : (s.chan c).jamAfter (.level l p n) = true := by rw [hafter, hj]; simpa using hon
        refine .inr (.inl ⟨rfl, hb, ?_⟩)
        rw [if_neg (by simp), if_pos hon, State.jam, modSurvey_setChan, hformed true hb]
      · have hb : (s.chan c).jamAfter (.level l p n) = false := by rw [hafter, hj]; simpa using hon
        refine .inl ⟨hb, ?_⟩
        rw [if_neg (by simp), if_neg hon, hsame (by rw [hcase, hb, hj])]
    | true =>
      by_cases hoff : l < (s.chan c).config.jamOff
      · have hb : (s.chan c).jamAfter (.level l p n) = false := by rw [hafter, hj]; simpa using hoff
        refine .inr (.inr ⟨rfl, hb, ?_⟩)
        rw [if_pos rfl, if_pos hoff, unjam_eq, modSurvey_setChan, hformed false hb]
      · have hb : (s.chan c).jamAfter (.level l p n) = true := by rw [hafter, hj]; simpa using hoff
        refine .inl ⟨hb, ?_⟩
        rw [if_pos rfl, if_neg hoff, hsame (by rw [hcase, hb, hj])]

theorem survey_of_aside {s u : State} {c : Chan} (h : Aside s u) : (u.chan c).survey = (s.chan c).survey := by
  obtain ⟨-, -, -, -, -, -, -, -, hsurvey, -⟩ := core_fields (h.core c)
  exact hsurvey

/-- R163, R166, R170: a result formed by the survey of a channel that has the settings, the jammed flag and the error flag of
`s`'s. -/
theorem resultFormed_conclude {s : State} {c : Chan} {v : Channel} {next : SurveyState} {r : SurveyResult}
    (hjammed : v.survey.jammed = (s.chan c).survey.jammed) (herror : v.survey.error = (s.chan c).survey.error)
    (hconfig : v.config = (s.chan c).config) (hr : v.survey.result = r) :
    ResultFormed s ((s.setChan c v).concludeSurvey c next) c next r
      ∧ ∃ w, coreOf (((s.setChan c v).concludeSurvey c next).chan c) = coreOf { v with survey := w } := by
  have hafter : v.jamAfter r = (s.chan c).jamAfter r := by
    unfold Channel.jamAfter
    rw [hjammed, hconfig]
  have hsurvey : (formed v next).survey = { (s.chan c).survey with
      state := next, cycle := 0, runMax := none, count := 0, sample := .none, last := r
      jammed := (s.chan c).jamAfter r } := by
    simp only [formed, hr, hafter, Survey.clearProgress, herror]
  have hcases := concludeSurvey_cases (s.setChan c v) c next
  rw [chan_setChan_self, hr, hafter, setChan_setChan, hjammed] at hcases
  rcases hcases with ⟨hb, heq⟩ | ⟨hj, hb, heq⟩ | ⟨hj, hb, heq⟩
  · rw [heq]
    refine ⟨⟨by rw [chan_setChan_self, hsurvey], by rw [if_pos hb]; rfl, rfl,
      fun _ => ⟨rfl, fun d hd => chan_setChan_ne s _ (Ne.symm hd)⟩, fun hf ht => ?_⟩, _, by rw [chan_setChan_self]; rfl⟩
    rw [hb, ht] at hf
    cases hf
  · rw [heq]
    refine ⟨⟨?_, ?_, rfl, fun _ => ⟨rfl, fun d hd => chan_setChan_ne s _ (Ne.symm hd)⟩, fun hf => ?_⟩,
      _, by rw [chan_attend, chan_setChan_self]; rfl⟩
    · rw [chan_attend, chan_setChan_self, hsurvey]
    · rw [if_neg (by rw [hb, hj]; simp)]
      rfl
    · rw [hb] at hf
      cases hf
  · have haside := Aside.foldl (aside_settledOn c) slotIds ((s.setChan c (formed v next)).attend (.jamChange c))
    generalize slotIds.foldl (settledOn c) ((s.setChan c (formed v next)).attend (.jamChange c)) = w at haside heq
    rw [heq]
    refine ⟨⟨?_, ?_, ?_, fun h => ?_, fun _ _ => rfl⟩, (formed v next).survey, ?_⟩
    · refine (survey_of_aside haside).trans ?_
      rw [chan_attend, chan_setChan_self, hsurvey]
    · rw [if_neg (by rw [hb, hj]; simp)]
      exact haside.attention
    · exact haside.table
    · rcases h with h | h
      · rw [hb] at h; cases h
      · rw [hj] at h; cases h
    · refine (haside.core c).trans ?_
      rw [chan_attend, chan_setChan_self]
      rfl

/-! ### The survey evolves -/

/-- R162, R163: a change of a survey that keeps it on or off. -/
theorem evolves_modSurvey (s : State) (c : Chan) (f : Survey → Survey)
    (h : (s.chan c).Sound → ((f (s.chan c).survey).state = .off ↔ (s.chan c).survey.state = .off)
      ∧ (f (s.chan c).survey).error = ((f (s.chan c).survey).state == .error) ∧ (f (s.chan c).survey).cycle ≤ 7) :
    Evolves s (s.modSurvey c f) :=
  evolves_modChan_kept s c _ rfl rfl rfl rfl rfl fun hs => by
    obtain ⟨hoff, herror, hcycle⟩ := h hs
    obtain ⟨h1, h2, h3, h4, h5, h6, h7, h8, -, -⟩ := hs
    exact ⟨h1, h2, h3, h4, h5, h6, h7, hoff.trans h8, herror, hcycle⟩

/-- A survey that is in the course of its cycles. -/
def OnCourse (x : SurveyState) : Prop := x = .armed ∨ x = .running

theorem evolves_concludeSurvey {s : State} {c : Chan} {next : SurveyState} (hon : OnCourse (s.chan c).survey.state)
    (hnext : OnCourse next) : Evolves s (s.concludeSurvey c next) := by
  have hformed : Evolves s (s.setChan c (formed (s.chan c) next)) := by
    refine evolves_modSurvey s c (fun v => { v.clearProgress with
      last := v.result, state := next, jammed := (s.chan c).jamAfter v.result }) fun hs => ⟨?_, ?_, Nat.zero_le 7⟩
    · rcases hon with h | h <;> rcases hnext with h' | h' <;> simp [h, h']
    · show (s.chan c).survey.error = _
      rw [hs.surveyError]
      rcases hon with h | h <;> rcases hnext with h' | h' <;> simp [h, h']
  rcases concludeSurvey_cases s c next with ⟨-, heq⟩ | ⟨-, -, heq⟩ | ⟨-, -, heq⟩ <;> rw [heq]
  · exact hformed
  · exact hformed.trans (evolves_attend _ _)
  · exact ((hformed.trans (evolves_attend _ _)).trans (.foldl (evolves_settledOn c) slotIds _)).trans (evolves_examine _ true)

/-- R164: a sample's record, whatever it is, no invariant reads. -/
theorem evolves_sample (s : State) (c : Chan) (f : Survey → Sample) :
    Evolves s (s.modSurvey c fun v => { v with sample := f v }) :=
  evolves_modSurvey s c _ fun hs => ⟨Iff.rfl, hs.surveyError, hs.surveyCycle⟩

theorem evolves_sampleEnds (s : State) (c : Chan) : Evolves s (s.sampleEnds c) := by
  have hended := evolves_sample s c fun _ => .none
  unfold State.sampleEnds
  dsimp only
  refine .ite (fun h => hended.trans (evolves_concludeSurvey (Or.inr ?_) (Or.inl rfl))) fun _ => hended
  rw [modSurvey_eq, chan_setChan_self]
  exact h.1

theorem evolves_sampleTaken (s : State) (c : Chan) (l p : Nat) : Evolves s (s.sampleTaken c l p) :=
  (evolves_modSurvey s c (fun v => { v with count := v.count + 1, runMax := RunMax.take v.runMax l p })
    fun hs => ⟨Iff.rfl, hs.surveyError, hs.surveyCycle⟩).trans (evolves_sampleEnds _ c)

theorem evolves_surveyCycle (s : State) (c : Chan) : Evolves s (s.surveyCycle c) := by
  unfold State.surveyCycle
  split
  · next h =>
    refine evolves_modSurvey s c _ fun hs => ⟨by rw [h]; simp, ?_, Nat.zero_le 7⟩
    show (s.chan c).survey.error = _
    rw [hs.surveyError, h]
    rfl
  · next h =>
    refine .ite (fun hcycle => ?_) fun _ => evolves_concludeSurvey (Or.inr h) (Or.inr rfl)
    exact evolves_modSurvey s c _ fun hs => ⟨Iff.rfl, hs.surveyError, hcycle⟩
  · exact .refl s
  · exact .refl s

theorem evolves_surveyPhase (s : State) (c : Chan) (p : Phase) (t : Instant) : Evolves s (s.surveyPhase c p t) :=
  .ite (fun _ => .ite (fun _ => evolves_sampleEnds s c) fun _ => evolves_sample s c fun _ => _) fun _ => .refl s

theorem evolves_takeLevel (s : State) (c : Chan) (l : Nat) (a : LevelAnswer) : Evolves s (s.takeLevel c l a) := by
  unfold State.takeLevel
  split
  · refine .ite (fun _ => ?_) fun _ => .refl s
    split
    · exact evolves_sampleTaken s c _ _
    · exact evolves_sampleEnds s c
  · exact .refl s

theorem evolves_samplingMoment (s : State) (c : Chan) : Evolves s (s.samplingMoment c) := by
  unfold State.samplingMoment
  split
  · exact .ite (fun _ => .ite (fun _ => evolves_sample s c fun v => .outstanding v.cycle s.now) fun _ =>
      evolves_sampleEnds s c) fun _ => .refl s
  · exact .refl s

theorem evolves_sampleDeadline (s : State) (c : Chan) : Evolves s (s.sampleDeadline c) := by
  unfold State.sampleDeadline
  split
  · exact .ite (fun _ => evolves_sampleEnds s c) fun _ => .refl s
  · exact .refl s

/-! ### Starts of the survey -/

/-- R167, R168: a channel whose survey starts or restarts, `ok` where the error condition does not hold. -/
def started (ok : SurveyState) (ch : Channel) : Channel :=
  { ch with survey := { ch.survey.clearProgress with
      state := if surveyErrorCondition ch.period ch.config.blank then .error else ok
      error := surveyErrorCondition ch.period ch.config.blank } }

theorem startSurvey_eq (s : State) (c : Chan) (ok : SurveyState) :
    s.startSurvey c ok = if surveyErrorCondition (s.chan c).period (s.chan c).config.blank
      then (s.modChan c (started ok)).attend (.surveyError c) else s.modChan c (started ok) := by
  have hwrite : ∀ x b, (x = if surveyErrorCondition (s.chan c).period (s.chan c).config.blank then .error else ok) →
      b = surveyErrorCondition (s.chan c).period (s.chan c).config.blank →
      (s.modSurvey c fun v => { v.clearProgress with state := x, error := b }) = s.modChan c (started ok) :=
    fun x b hx hb => by rw [hx, hb]; rfl
  unfold State.startSurvey
  split
  · next h => rw [hwrite .error true (by rw [if_pos h]) h.symm]
  · next h => rw [hwrite ok false (by rw [if_neg h]) (by simpa using h)]

/-- R167, R168: what a start leaves sound, on a channel that is LIVE with its survey on. -/
theorem sound_started {ch : Channel} {ok : SurveyState} (hok : OnCourse ok) (hq : QueueSound True ch)
    (hepoch : ch.epoch.isSome = (ch.mode == .live)) (hon : ¬ (ch.mode = .off ∨ ch.config.survey = false)) :
    (started ok ch).Sound := by
  refine channel_sound_iff.mpr ⟨⟨hq.1, hq.2, hq.3, hq.4, hq.5, hq.6⟩, hepoch, iff_of_false (fun h => ?_) hon, ?_,
    Nat.zero_le 7⟩
  · simp only [started] at h
    split at h
    · cases h
    · rcases hok with rfl | rfl <;> cases h
  · simp only [started]
    split
    · next h => rw [h]; rfl
    · next h =>
      rw [Bool.eq_false_of_not_eq_true h]
      rcases hok with rfl | rfl <;> rfl

theorem evolves_startSurvey_of {s v : State} {c : Chan} {ok : SurveyState} (h : Evolves s (v.modChan c (started ok))) :
    Evolves s (v.startSurvey c ok) := by
  rw [startSurvey_eq]
  exact .ite (fun _ => h.trans (evolves_attend _ _)) fun _ => h

/-! ### Cycle starts -/

theorem modChan_modChan (s : State) (c : Chan) (f g : Channel → Channel) :
    (s.modChan c f).modChan c g = s.modChan c fun ch => g (f ch) := modChan_setChan s c _ g

theorem evolves_periodCurrent {s : State} {c : Chan} {p : Nat} (hp : s.SettingsSound → PeriodInRange p) :
    Evolves s (s.periodCurrent c p) := by
  unfold State.periodCurrent
  dsimp only
  refine .ite (fun _ => ?_) fun hon => evolves_startSurvey_of ?_
  · exact evolves_modChan s c _ rfl rfl (fun ⟨h1, h2, h3, h4, h5, h6, h7, h8, h9, h10⟩ =>
      ⟨h1, h2, h3, h4, h5, h6, h7, h8, h9, h10⟩) fun hs => ⟨(hs.channels c).1, hp hs, nofun⟩
  · rw [modChan_modChan]
    refine evolves_modChan s c _ rfl rfl (fun hs => ?_) fun hs => ⟨(hs.channels c).1, hp hs, nofun⟩
    have hq := (channel_sound_iff.mp hs).1
    exact sound_started (Or.inr rfl) ⟨hq.1, hq.2, hq.3, hq.4, hq.5, hq.6⟩ hs.liveEpoch fun h => hon (hs.surveyOff.mpr h)

theorem sameCore_concluded (s : State) (c : Chan) (next : SurveyState) :
    ∃ v, coreOf ((s.concludeSurvey c next).chan c) = coreOf { s.chan c with survey := v } := by
  have h := (resultFormed_conclude (s := s) (c := c) (v := s.chan c) (next := next) rfl rfl rfl rfl).2
  rwa [setChan_same] at h

theorem core_surveyCycle (s : State) (c : Chan) :
    ∃ v, coreOf ((s.surveyCycle c).chan c) = coreOf { s.chan c with survey := v } := by
  unfold State.surveyCycle
  split
  · exact ⟨_, by rw [modSurvey_eq, chan_setChan_self]⟩
  · split
    · exact ⟨_, by rw [modSurvey_eq, chan_setChan_self]⟩
    · exact sameCore_concluded s c _
  · exact ⟨(s.chan c).survey, rfl⟩
  · exact ⟨(s.chan c).survey, rfl⟩

theorem evolves_cycleStart (s : State) (c : Chan) (b : Bool) : Evolves s (s.cycleStart c b) := by
  unfold State.cycleStart
  refine .ite (fun _ => ?_) fun _ => .refl s
  set v := s.modChan c fun ch => { ch with cycleStart := ch.cycleStart + ch.period, reached := 0 } with hv
  have hbegun : Evolves s v := evolves_modChan_kept s c _ rfl rfl rfl rfl rfl
    fun ⟨h1, h2, h3, h4, h5, h6, h7, h8, h9, h10⟩ => ⟨h1, h2, h3, h4, h5, h6, h7, h8, h9, h10⟩
  have hchan : (v.chan c).pendingPeriod = (s.chan c).pendingPeriod := by rw [hv, chan_modChan_self]
  dsimp only
  split
  · exact hbegun.trans (evolves_surveyCycle v c)
  · next p hp =>
    refine .ite (fun _ => hbegun.trans (evolves_periodCurrent fun hs => (hs.channels c).2.2 p (hchan.trans hp))) fun _ =>
      (hbegun.trans (evolves_surveyCycle v c)).trans (evolves_periodCurrent fun hs => (hs.channels c).2.2 p ?_)
    obtain ⟨w, hw⟩ := core_surveyCycle v c
    exact ((core_fields hw).2.2.2.2.2.2.1).trans (hchan.trans hp)

/-! ### Phase instants -/

theorem evolves_raiseBeat (s : State) (i : SlotId) : Evolves s (s.raiseBeat i) := by
  unfold State.raiseBeat
  split
  · exact .refl s
  · next g hg =>
    refine .ite (fun _ => ?_) fun _ => .refl s
    have hwithdrawn := (calm_withdraw (X := noSlot) (E := noHolder) s g.channel (.phase g.phase) .beat).trans
      (calm_withdraw _ g.channel (.phase g.phase) .halt)
    have hraised : Evolves s (if g.state = .halt then
        (((s.withdraw g.channel (.phase g.phase) .beat).withdraw g.channel (.phase g.phase) .halt).raise g.channel
          (.phase g.phase) .halt .plain).oldChannelHalt i
        else ((s.withdraw g.channel (.phase g.phase) .beat).withdraw g.channel (.phase g.phase) .halt).raise g.channel
          (.phase g.phase) .beat .plain) := by
      refine .ite (fun _ => ?_) fun _ => (evolves_of_calm hwithdrawn).trans (evolves_raise _ _ _ _ _)
      refine ((evolves_of_calm hwithdrawn).trans (evolves_raise _ _ _ _ _)).trans (evolves_of_calm
        ((local_oldChannelHalt i i _).calm_of_groups ?_))
      unfold State.oldChannelHalt
      split
      · rfl
      · split <;> rfl
    dsimp only
    exact .ite (fun _ => hraised.trans (evolves_of_calm (calm_dropBeat _ i))) fun _ => hraised

theorem evolves_beatInstant (s : State) (c : Chan) (p : Phase) : Evolves s (s.beatInstant c p) := by
  unfold State.beatInstant
  split
  · exact .refl s
  · next i hi =>
    split
    · exact .refl s
    · refine .ite (fun _ => evolves_raiseBeat s i) fun _ => ?_
      unfold State.raiseMove
      split
      · exact .refl s
      · split
        · exact .refl s
        · exact .ite (fun _ => evolves_raise s _ _ _ _) fun _ => .refl s

theorem evolves_phaseInstant (s : State) (c : Chan) (p : Phase) : Evolves s (s.phaseInstant c p) := by
  unfold State.phaseInstant
  refine .ite (fun _ => ?_) fun _ => .refl s
  have hreached : Evolves s (s.modChan c fun ch => { ch with reached := p.val + 1 }) :=
    evolves_modChan_kept s c _ rfl rfl rfl rfl rfl
      fun ⟨h1, h2, h3, h4, h5, h6, h7, h8, h9, h10⟩ => ⟨h1, h2, h3, h4, h5, h6, h7, h8, h9, h10⟩
  exact (hreached.trans (evolves_beatInstant _ c p)).trans (evolves_surveyPhase _ c p _)

end Sys2Proof.SurveyProofs
end

section
/-!
Samples, results, phase instants and cycle starts (R53 to R57, R162 to R168): the statements on the Survey Unit's part of the
channel cycle.
-/
namespace Sys2Proof.SampleProofs
open Sys2Proof Sys2Proof.Machine Sys2Proof.Machine.Laws Sys2Proof.CommandProofs Sys2Proof.DeviceProofs
  Sys2Proof.PortProofs Sys2Proof.SlotProofs Sys2Proof.RecordProofs Sys2Proof.FrameProofs Sys2Proof.FloorProofs
  Sys2Proof.HaltProofs Sys2Proof.MemberProofs Sys2Proof.ReleaseProofs Sys2Proof.EvolveProofs
  Sys2Proof.AirProofs Sys2Proof.SurveyProofs

/-- An event whose effect is known. -/
theorem exec_event_eq {i : Instr} {t : Instant} {f : State → State} {s u : State} (h : eventEffect i = some (t, f))
    (hu : f (s.tick t) = u) : exec i s = .next u.finish := by
  rw [exec_event s h, hu]

/-! ### Samples -/

/-- R164, R165: a sample that ends in a cycle before the last. -/
theorem sampleEnds_early {s : State} {c : Chan} (h : (s.chan c).survey.cycle < 7) :
    s.sampleEnds c = s.setChan c { s.chan c with survey := { (s.chan c).survey with sample := .none } } := by
  have hno : ¬ ((s.chan c).survey.state = .running ∧ (s.chan c).survey.cycle = 7) := fun hc => by
    have := hc.2
    omega
  unfold State.sampleEnds
  dsimp only
  rw [if_neg hno, modSurvey_eq]

theorem sampleEnds_last {s : State} {c : Chan} (hs : (s.chan c).survey.state = .running)
    (hc : (s.chan c).survey.cycle = 7) :
    s.sampleEnds c = (s.setChan c { s.chan c with survey := { (s.chan c).survey with sample := .none } }).concludeSurvey c
      .armed := by
  unfold State.sampleEnds
  dsimp only
  rw [if_pos ⟨hs, hc⟩, modSurvey_eq]

/-- R165: a channel that has taken a sample of level `l` at phase `p`. -/
def sampled (ch : Channel) (l p : Nat) : Channel :=
  { ch with survey := { ch.survey with count := ch.survey.count + 1, runMax := RunMax.take ch.survey.runMax l p } }

theorem sampleTaken_eq (s : State) (c : Chan) (l p : Nat) :
    s.sampleTaken c l p = (s.setChan c (sampled (s.chan c) l p)).sampleEnds c := rfl

theorem runMax_take_eq (m : Option RunMax) (l p : Nat) :
    RunMax.take m l p = match m with
      | none => some { level := l, phase := p }
      | some m => if m.level < l then some { level := l, phase := p } else some m := by
  cases m <;> rfl

theorem runMax_take_some (m : RunMax) (l p : Nat) :
    RunMax.take (some m) l p = some (if m.level < l then { level := l, phase := p } else m) := by
  show (if m.level < l then some _ else some m) = _
  split <;> rfl

theorem withdraw_eq (s : State) (c : Chan) (src : Source) (k : ReqKind) :
    s.withdraw c src k = s.setChan c { s.chan c with reqs := reqsWithdraw src k (s.chan c).reqs } := rfl

theorem tx_idle {ch : Channel} (hf : ch.inFlight = none) (ht : ch.talk = none) : ch.tx = .idle := by
  simp [Channel.tx, hf, ht]

theorem tx_not_idle {ch : Channel} (h : ch.inFlight.isSome = true ∨ ch.talk.isSome = true) : ch.tx ≠ .idle := by
  unfold Channel.tx
  rcases hf : ch.inFlight with _ | f <;> rcases ht : ch.talk with _ | x <;> simp_all

theorem samplingMoment_open {s : State} {c : Chan} {x d : Instant} (hs : (s.chan c).survey.sample = .waiting x d)
    (h : (s.chan c).tx = .idle ∧ (s.chan c).samplingMoment x ≤ d ∧ (s.chan c).samplingMoment x ≤ s.now) :
    s.samplingMoment c = if (s.chan c).ready then
        s.modSurvey c fun v => { v with sample := .outstanding v.cycle s.now } else s.sampleEnds c := by
  unfold State.samplingMoment
  rw [hs]
  exact if_pos h

theorem sampleDeadline_past {s : State} {c : Chan} {x d : Instant} (hs : (s.chan c).survey.sample = .waiting x d)
    (h : d ≤ s.now ∧ (s.chan c).tx ≠ .idle) : s.sampleDeadline c = s.sampleEnds c := by
  unfold State.sampleDeadline
  rw [hs]
  exact if_pos h

/-- Settles O43: each sampling event is one write of the survey; in the last cycle the sample forms the result. -/
theorem sampleTaken : Obligations.SampleTaken := by
  refine ⟨fun t c s hcycle => ⟨fun x d hs hf ht hd hnow => ?_, fun x d hs hd htx => ?_, fun p x l hs => ?_⟩,
    fun t c p x l m s hstate hcycle hs hm => ?_, fun t c l k x s hq hs => ?_⟩
  · refine exec_event_eq rfl ?_
    show (s.tick t).samplingMoment c = _
    rw [samplingMoment_open (s := s.tick t) hs ⟨tx_idle hf ht, hd, hnow⟩, chan_tick]
    by_cases hr : (s.chan c).ready = true
    · rw [if_pos hr, if_pos hr]
      rfl
    · rw [if_neg hr, if_neg hr, sampleEnds_early (s := s.tick t) hcycle]
      rfl
  · refine exec_event_eq rfl ?_
    show (s.tick t).sampleDeadline c = _
    rw [sampleDeadline_past (s := s.tick t) hs ⟨hd, tx_not_idle htx⟩, sampleEnds_early (s := s.tick t) hcycle]
    rfl
  · refine exec_event_eq rfl ?_
    have hchan : (((s.tick t).setChan c (sampled (s.chan c) (levelOf l) p)).chan c) = sampled (s.chan c) (levelOf l) p :=
      chan_setChan_self _ _ _
    rw [takeLevel_clear (s := s.tick t) l hs, sampleTaken_eq, chan_tick, sampleEnds_early (by rw [hchan]; exact hcycle),
      hchan, setChan_setChan, sampled, runMax_take_eq]
    rfl
  · have hchan : (((s.tick t).setChan c (sampled (s.chan c) (levelOf l) p)).chan c) = sampled (s.chan c) (levelOf l) p :=
      chan_setChan_self _ _ _
    have heq : (s.tick t).takeLevel c l { mark := .clear, requested := x } = ((s.tick t).setChan c
        { sampled (s.chan c) (levelOf l) p with
          survey := { (sampled (s.chan c) (levelOf l) p).survey with sample := .none } }).concludeSurvey c .armed := by
      rw [takeLevel_clear (s := s.tick t) l hs, sampleTaken_eq, chan_tick,
        sampleEnds_last (by rw [hchan]; exact hstate) (by rw [hchan]; exact hcycle), hchan, setChan_setChan]
    have hresult : { (sampled (s.chan c) (levelOf l) p).survey with sample := .none }.result
        = .level m.level m.phase ((s.chan c).survey.count + 1) := by
      rcases hm with ⟨hnone, rfl⟩ | ⟨m₀, hsome, rfl⟩
      · simp only [Survey.result, sampled, hnone]
        rfl
      · simp only [Survey.result, sampled, hsome, runMax_take_some]
        rfl
    have hformed := (resultFormed_conclude (s := s.tick t) (c := c) (next := .armed) (v :=
      { sampled (s.chan c) (levelOf l) p with
        survey := { (sampled (s.chan c) (levelOf l) p).survey with sample := .none } }) rfl rfl rfl hresult).1
    exact ⟨_, exec_event_eq rfl heq, ⟨hformed.survey, hformed.attention, hformed.table, hformed.kept, hformed.cleared⟩⟩
  · rw [exec_event_eq (u := s.tick t) rfl (takeLevel_late (s := s.tick t) (c := c) (a := ⟨k, x⟩) l hs), finish_of_quiet (quiet_tick t hq)]

/-! ### Phase instants -/

/-- R56, R57: the phase instant of a group that stands at its own phase, with no HALT pending. -/
theorem raiseBeat_eq {s : State} {i : SlotId} {g : Machine.Group} (hg : s.group i = some g)
    (hstate : g.state = .active ∨ g.state = .degraded) (hsorted : RequestsSound (s.chan g.channel).reqs)
    (hhalt : s.isPending g.channel (.phase g.phase) .halt = false) (hdropped : g.dropped < 3) :
    s.raiseBeat i = (s.setChan g.channel { s.chan g.channel with
        reqs := reqsRaise { source := .phase g.phase, kind := .beat, body := .plain } (s.chan g.channel).reqs }).setSlot i
      { changed := (s.slot i).changed
        body := .held { g with
          dropped := if s.isPending g.channel (.phase g.phase) .beat then g.dropped + 1 else g.dropped } } := by
  have hbeats : g.state.beats = true := by rcases hstate with h | h <;> rw [h] <;> rfl
  have hnot : g.state ≠ .halt := by rcases hstate with h | h <;> rw [h] <;> simp
  set v := s.setChan g.channel { s.chan g.channel with
    reqs := reqsRaise { source := .phase g.phase, kind := .beat, body := .plain } (s.chan g.channel).reqs } with hv
  have hreqs : reqsRaise { source := .phase g.phase, kind := .beat, body := .plain }
      (reqsWithdraw (.phase g.phase) .halt (reqsWithdraw (.phase g.phase) .beat (s.chan g.channel).reqs))
      = reqsRaise { source := .phase g.phase, kind := .beat, body := .plain } (s.chan g.channel).reqs := by
    have habsent : reqsFind (.phase g.phase) .halt (reqsWithdraw (.phase g.phase) .beat (s.chan g.channel).reqs) = none := by
      rw [reqsFind_withdraw_ne _ (by simp)]
      simpa [State.isPending] using hhalt
    rw [reqsWithdraw_absent habsent, reqsRaise_withdraw hsorted]
  have hraised : ((s.withdraw g.channel (.phase g.phase) .beat).withdraw g.channel (.phase g.phase) .halt).raise g.channel
      (.phase g.phase) .beat .plain = v := by
    rw [withdraw_eq s, withdraw_setChan, raise_setChan, hreqs]
  have hvg : v.group i = some g := hg
  simp only [State.raiseBeat, hg, hbeats, if_true, hnot, if_false, hhalt, Bool.or_false, hraised]
  by_cases hlate : s.isPending g.channel (.phase g.phase) .beat = true
  · have hcount : min 4 (g.dropped + 1) = g.dropped + 1 := by omega
    have hfour : ¬ g.dropped + 1 = 4 := by omega
    simp only [hlate, if_true, State.dropBeat, hvg, hcount, hfour, if_false]
    rw [modGroup_eq _ hvg]
    rfl
  · rw [if_neg hlate, if_neg hlate]
    exact eq_setSlot hvg

theorem phaseDue_of {ch : Channel} {now : Instant} {p : Phase} (hlive : ch.mode = .live) (hreached : ch.reached ≤ p.val)
    (htime : ch.phaseTime p ≤ now) : ch.phaseDue now p = true := by
  simp [Channel.phaseDue, hlive, hreached, htime]

/-- Settles O44: the phase instant is the group's beat, and the survey has nothing to judge. -/
theorem beatRaised : Obligations.BeatRaised := by
  intro t c p i g s hsound hlive hreached htime hocc hg hc hp hstate hhalt hsurvey hdropped
  subst hc hp
  refine exec_event_eq rfl ?_
  have hdue : ((s.tick t).chan g.channel).phaseDue (s.tick t).now g.phase = true := phaseDue_of hlive hreached htime
  set v := (s.tick t).modChan g.channel fun ch => { ch with reached := g.phase.val + 1 } with hv
  have hchan : v.chan g.channel = { s.chan g.channel with reached := g.phase.val + 1 } := chan_modChan_self _ _ _
  have hvg : v.group i = some g := hg
  have hpending : ∀ k, v.isPending g.channel (.phase g.phase) k = s.isPending g.channel (.phase g.phase) k := fun k => by
    rw [State.isPending, State.isPending, hchan]
  have hbeat : v.beatInstant g.channel g.phase = v.raiseBeat i := by
    simp only [State.beatInstant, hchan, hocc, hvg, and_self, if_true]
  have hraise := raiseBeat_eq hvg hstate (by rw [hchan]; exact (hsound g.channel).requests)
    ((hpending .halt).trans hhalt) hdropped
  rw [hpending, hchan] at hraise
  have hquiet : ∀ u : State, (u.chan g.channel).survey = (s.chan g.channel).survey → ∀ x, u.surveyPhase g.channel g.phase x = u :=
    fun u hu x => if_neg (by rw [hu]; exact fun h => hsurvey h.1)
  show (if ((s.tick t).chan g.channel).phaseDue (s.tick t).now g.phase then _ else _) = _
  rw [if_pos hdue, hbeat, hraise, hquiet]
  · show State.setSlot i _ (((s.tick t).setChan g.channel _).setChan g.channel _) = _
    rw [setChan_setChan]
    rfl
  · rw [chan_setSlot, chan_setChan_self]

/-! ### Cycle starts -/

/-- R53: a channel at the start of its next cycle. -/
def turned (ch : Channel) : Channel := { ch with cycleStart := ch.cycleStart + ch.period, reached := 0 }

/-- R52, R53: a channel whose pending period has become current. -/
def retimed (ch : Channel) (p : Nat) : Channel := { ch with period := p, pendingPeriod := none }

theorem cycleStart_eq {s : State} {c : Chan} (b : Bool) (hlive : (s.chan c).mode = .live)
    (hdue : (s.chan c).cycleStart + (s.chan c).period ≤ s.now) :
    s.cycleStart c b = match (s.chan c).pendingPeriod with
      | none => (s.setChan c (turned (s.chan c))).surveyCycle c
      | some p => if b then (s.setChan c (turned (s.chan c))).periodCurrent c p
        else ((s.setChan c (turned (s.chan c))).surveyCycle c).periodCurrent c p := by
  unfold State.cycleStart
  rw [if_pos ⟨hlive, hdue⟩]
  rfl

theorem surveyCycle_off {s : State} {c : Chan} (h : (s.chan c).survey.state = .off) : s.surveyCycle c = s := by
  simp only [State.surveyCycle, h]

theorem surveyCycle_error {s : State} {c : Chan} (h : (s.chan c).survey.state = .error) : s.surveyCycle c = s := by
  simp only [State.surveyCycle, h]

theorem surveyCycle_armed {s : State} {c : Chan} (h : (s.chan c).survey.state = .armed) :
    s.surveyCycle c = s.setChan c { s.chan c with
      survey := { (s.chan c).survey with state := .running, cycle := 0, runMax := none, count := 0, sample := .none } } := by
  simp only [State.surveyCycle, h]
  rfl

theorem surveyCycle_running {s : State} {c : Chan} (h : (s.chan c).survey.state = .running)
    (hc : (s.chan c).survey.cycle < 7) :
    s.surveyCycle c = s.setChan c { s.chan c with
      survey := { (s.chan c).survey with sample := .none, cycle := (s.chan c).survey.cycle + 1 } } := by
  unfold State.surveyCycle
  rw [h]
  exact if_pos hc

theorem surveyCycle_last {s : State} {c : Chan} (h : (s.chan c).survey.state = .running)
    (hc : (s.chan c).survey.cycle = 7) : s.surveyCycle c = s.concludeSurvey c .running := by
  simp only [State.surveyCycle, h, hc, lt_irrefl, if_false]

theorem periodCurrent_off {s : State} {c : Chan} (p : Nat) (h : (s.chan c).survey.state = .off) :
    s.periodCurrent c p = s.setChan c (retimed (s.chan c) p) := if_pos h

theorem periodCurrent_on {s : State} {c : Chan} (p : Nat) (h : (s.chan c).survey.state ≠ .off) :
    s.periodCurrent c p = (s.setChan c (retimed (s.chan c) p)).startSurvey c .running := if_neg h

theorem startSurvey_setChan (s : State) (c : Chan) (v : Channel) (ok : SurveyState) :
    (s.setChan c v).startSurvey c ok = if surveyErrorCondition v.period v.config.blank
      then (s.setChan c (started ok v)).attend (.surveyError c) else s.setChan c (started ok v) := by
  rw [startSurvey_eq, modChan_setChan, chan_setChan_self]

/-- A start reads nothing of the survey but its last result and the jammed flag. -/
theorem started_survey_congr {ch : Channel} {w : Survey} (ok : SurveyState) (hlast : w.last = ch.survey.last)
    (hjam : w.jammed = ch.survey.jammed) : started ok { ch with survey := w } = started ok ch := by
  simp only [started, Survey.clearProgress, hlast, hjam]

theorem result_of_runMax {v : Survey} {r : SurveyResult} (h : (v.runMax = none ∧ r = .noSample)
    ∨ ∃ m, v.runMax = some m ∧ r = .level m.level m.phase v.count) : v.result = r := by
  unfold Survey.result
  rcases h with ⟨h, rfl⟩ | ⟨m, h, rfl⟩ <;> rw [h]

/-- R163, R166: the forming of the result at a cycle start. -/
theorem resultFormed_turned {s : State} {c : Chan} {r : SurveyResult} (hr : (s.chan c).survey.result = r) :
    ResultFormed s ((s.setChan c (turned (s.chan c))).concludeSurvey c .running) c .running r
      ∧ ∃ w, coreOf (((s.setChan c (turned (s.chan c))).concludeSurvey c .running).chan c)
        = coreOf { turned (s.chan c) with survey := w } :=
  resultFormed_conclude (v := turned (s.chan c)) rfl rfl rfl hr

/-- R167, R168: a restart at a cycle start with a period that takes effect, whatever the progress was. -/
theorem restarted_eq {s : State} {c : Chan} (p : Nat) {w : Survey} (hon : w.state ≠ .off)
    (hlast : w.last = (s.chan c).survey.last) (hjam : w.jammed = (s.chan c).survey.jammed) :
    (s.setChan c { turned (s.chan c) with survey := w }).periodCurrent c p
      = { s.setChan c { s.chan c with
            cycleStart := (s.chan c).cycleStart + (s.chan c).period
            reached := 0
            period := p
            pendingPeriod := none
            survey := { (s.chan c).survey with
              state := if p / 8 < (s.chan c).config.blank + 10 then .error else .running
              error := decide (p / 8 < (s.chan c).config.blank + 10)
              cycle := 0, runMax := none, count := 0, sample := .none } } with
          attention :=
            if p / 8 < (s.chan c).config.blank + 10 then attnAdd (.surveyError c) s.attention else s.attention } := by
  set v : Channel := retimed { turned (s.chan c) with survey := w } p with hv
  have hstarted : started .running v = started .running (retimed (turned (s.chan c)) p) :=
    started_survey_congr (ch := retimed (turned (s.chan c)) p) .running hlast hjam
  rw [periodCurrent_on p (by rw [chan_setChan_self]; exact hon), chan_setChan_self, setChan_setChan, ← hv,
    startSurvey_setChan, hstarted]
  have hcond : surveyErrorCondition v.period v.config.blank = decide (p / 8 < (s.chan c).config.blank + 10) := rfl
  have hform : started .running (retimed (turned (s.chan c)) p) = { s.chan c with
      cycleStart := (s.chan c).cycleStart + (s.chan c).period
      reached := 0
      period := p
      pendingPeriod := none
      survey := { (s.chan c).survey with
        state := if p / 8 < (s.chan c).config.blank + 10 then .error else .running
        error := decide (p / 8 < (s.chan c).config.blank + 10)
        cycle := 0, runMax := none, count := 0, sample := .none } } := by
    by_cases h : p / 8 < (s.chan c).config.blank + 10 <;>
      simp [started, retimed, turned, Survey.clearProgress, surveyErrorCondition, h]
  rw [hcond, hform]
  by_cases h : p / 8 < (s.chan c).config.blank + 10
  · rw [if_pos (decide_eq_true h)]
    simp only [if_pos h]
    rfl
  · rw [if_neg (by simpa using h)]
    simp only [if_neg h]
    rfl

/-- Settles O45: by the state of the survey, and by whether a period takes effect. -/
theorem cycleBegins : Obligations.CycleBegins := by
  intro t c b s hlive hdue
  have heq := cycleStart_eq (s := s.tick t) b hlive hdue
  have hchan : ((s.tick t).setChan c (turned (s.chan c))).chan c = turned (s.chan c) := chan_setChan_self _ _ _
  simp only [chan_tick] at heq
  refine ⟨fun hoff => exec_event_eq rfl ?_, fun hnone => ⟨fun harmed => exec_event_eq rfl ?_,
    fun hrun hcycle => exec_event_eq rfl ?_, fun r hrun hcycle hr => ?_⟩,
    fun p hp hon => ⟨fun hb => exec_event_eq rfl ?_, fun r hb hrun hcycle hr => ?_⟩⟩
  · have hcycle : ((s.tick t).setChan c (turned (s.chan c))).surveyCycle c = (s.tick t).setChan c (turned (s.chan c)) :=
      surveyCycle_off (by rw [hchan]; exact hoff)
    show (s.tick t).cycleStart c b = _
    rw [heq]
    cases hp : (s.chan c).pendingPeriod with
    | none =>
      simp only [hcycle]
      refine congrArg (fun v => (s.tick t).setChan c v) ?_
      simp [turned, hp]
    | some p =>
      simp only [hcycle, ite_self]
      rw [periodCurrent_off p (by rw [hchan]; exact hoff), hchan, setChan_setChan]
      rfl
  · show (s.tick t).cycleStart c b = _
    rw [heq, hnone]
    simp only
    rw [surveyCycle_armed (by rw [hchan]; exact harmed), hchan, setChan_setChan]
    rfl
  · show (s.tick t).cycleStart c b = _
    rw [heq, hnone]
    simp only
    rw [surveyCycle_running (by rw [hchan]; exact hrun) (by rw [hchan]; exact hcycle), hchan, setChan_setChan]
    rfl
  · obtain ⟨hformed, w, hcore⟩ := resultFormed_turned (s := s.tick t) (c := c) (result_of_runMax hr)
    obtain ⟨-, -, -, hstart, -, hperiod, -⟩ := core_fields hcore
    refine ⟨_, exec_event_eq rfl (heq.trans ?_), ⟨hformed.survey, hformed.attention, hformed.table, hformed.kept,
      hformed.cleared⟩, hstart, hperiod⟩
    rw [hnone]
    simp only
    exact surveyCycle_last (by rw [hchan]; exact hrun) (by rw [hchan]; exact hcycle)
  · show (s.tick t).cycleStart c b = _
    rw [heq, hp]
    have hrestart : ∀ w : Survey, w.state ≠ .off → w.last = (s.chan c).survey.last →
        w.jammed = (s.chan c).survey.jammed → _ := fun w => restarted_eq (s := s.tick t) (c := c) p (w := w)
    cases b with
    | true => exact hrestart (s.chan c).survey hon rfl rfl
    | false =>
      simp only [Bool.false_eq_true, if_false]
      cases hstate : (s.chan c).survey.state with
      | off => exact absurd hstate hon
      | error =>
        rw [surveyCycle_error (by rw [hchan]; exact hstate)]
        exact hrestart (s.chan c).survey hon rfl rfl
      | armed =>
        rw [surveyCycle_armed (by rw [hchan]; exact hstate), hchan, setChan_setChan]
        exact hrestart _ (by simp) rfl rfl
      | running =>
        have hcycle : (s.chan c).survey.cycle < 7 := by
          rcases hb with h | h | h
          · cases h
          · exact absurd hstate h
          · exact h
        rw [surveyCycle_running (by rw [hchan]; exact hstate) (by rw [hchan]; exact hcycle), hchan, setChan_setChan]
        exact hrestart _ hon rfl rfl
  · obtain ⟨hformed, w, hcore⟩ := resultFormed_turned (s := s.tick t) (c := c) (result_of_runMax hr)
    obtain ⟨-, -, -, hstart, -, -, -, hconfig, -⟩ := core_fields hcore
    set y := ((s.tick t).setChan c (turned ((s.tick t).chan c))).concludeSurvey c .running with hy
    have hsurvey := hformed.survey
    have hyon : (y.chan c).survey.state ≠ .off := by rw [hsurvey]; simp
    have hchan' : ((y.periodCurrent c p).chan c) = started .running (retimed (y.chan c) p) := by
      rw [periodCurrent_on p hyon, startSurvey_setChan]
      split
      · rw [chan_attend, chan_setChan_self]
      · rw [chan_setChan_self]
    have hblank : (y.chan c).config.blank = (s.chan c).config.blank := by rw [hconfig]; rfl
    refine ⟨y.periodCurrent c p, exec_event_eq rfl (heq.trans ?_), ?_, ?_, ?_, ?_⟩
    · rw [hp, hb]
      simp only [Bool.false_eq_true, if_false]
      rw [surveyCycle_last (by rw [hchan]; exact hrun) (by rw [hchan]; exact hcycle)]
      rfl
    · rw [hchan']
      simp only [started, retimed, Survey.clearProgress, hsurvey, surveyErrorCondition, hblank, decide_eq_true_eq]
      rfl
    · rw [hchan']
      exact hstart
    · rw [hchan']
      rfl
    · rw [hchan']
      rfl

end Sys2Proof.SampleProofs
end

section
/-!
The end of a group (R40, R41, R44, R160): the start of a release and the retirement evolve the state.
-/
namespace Sys2Proof.ReturnProofs
open Sys2Proof Sys2Proof.Machine Sys2Proof.Machine.Laws Sys2Proof.CommandProofs Sys2Proof.DeviceProofs
  Sys2Proof.PortProofs Sys2Proof.SlotProofs Sys2Proof.RecordProofs Sys2Proof.FrameProofs Sys2Proof.FloorProofs
  Sys2Proof.HaltProofs Sys2Proof.MemberProofs Sys2Proof.ReleaseProofs Sys2Proof.EvolveProofs Sys2Proof.CalmProofs
  Sys2Proof.EntryProofs Sys2Proof.ActProofs Sys2Proof.EvolvesProofs Sys2Proof.AirProofs

/-! ### Old phases -/

/-- R148, R158: the phases that a record holds beside its own. -/
def oldPlaces (g : Machine.Group) (c : Chan) (p : Phase) : Prop :=
  (∃ m, g.move = some m ∧ m.oldChan = c ∧ m.oldPhase = p) ∨ ∃ h, g.finalHalt = some h ∧ h.chan = c ∧ h.phase = p

/-- R160: a record that has ended its move and its final old-channel HALT. -/
def settled (g : Machine.Group) : Machine.Group := { g with move := none, finalHalt := none }

theorem frees_nothing {i : SlotId} {s u : State} (h : Local i s u) : Frees i (fun _ _ => False) s u :=
  ⟨h.toShift, fun _ _ hD => hD.elim, fun d q _ => by rw [h.occupancy]⟩

/-- R160: the end of a move by `endOldChannel`. -/
def endedMove (s : State) (i : SlotId) (m : MoveRecord) : State :=
  (((s.modGroup i fun g => { g with move := none }).withdraw m.oldChan (.phase m.oldPhase) .move).withdraw
    m.oldChan (.phase m.oldPhase) .halt).freePhase m.oldChan m.oldPhase

/-- R160: the end of a final old-channel HALT by `endOldChannel`. -/
def endedHalt (s : State) (i : SlotId) (h : FinalHalt) : State :=
  ((s.modGroup i fun g => { g with finalHalt := none }).withdraw h.chan (.phase h.phase) .halt).freePhase h.chan h.phase

theorem frees_endedMove {s : State} {i : SlotId} {g : Machine.Group} (m : MoveRecord) (hg : s.group i = some g) :
    Frees i (place m.oldChan m.oldPhase) s (endedMove s i m)
      ∧ (endedMove s i m).group i = some { g with move := none } := by
  have hlocal := ((Local.modGroup s i fun g => { g with move := none }).trans
    (.withdraw i _ m.oldChan (.phase m.oldPhase) .move)).trans (.withdraw i _ m.oldChan (.phase m.oldPhase) .halt)
  refine ⟨.after hlocal (.freePhase i _ m.oldChan m.oldPhase), ?_⟩
  rw [endedMove, group_freePhase, group_withdraw, group_withdraw, group_modGroup_self, hg]
  rfl

theorem frees_endedHalt {s : State} {i : SlotId} {g : Machine.Group} (h : FinalHalt) (hg : s.group i = some g) :
    Frees i (place h.chan h.phase) s (endedHalt s i h)
      ∧ (endedHalt s i h).group i = some { g with finalHalt := none } := by
  have hlocal := (Local.modGroup s i fun g => { g with finalHalt := none }).trans
    (.withdraw i _ h.chan (.phase h.phase) .halt)
  refine ⟨.after hlocal (.freePhase i _ h.chan h.phase), ?_⟩
  rw [endedHalt, group_freePhase, group_withdraw, group_modGroup_self, hg]
  rfl

/-- R160: `endOldChannel` frees the old phases and no other. -/
theorem frees_endOldChannel {s : State} {i : SlotId} {g : Machine.Group} (hg : s.group i = some g) :
    Frees i (oldPlaces g) s (s.endOldChannel i) ∧ (s.endOldChannel i).group i = some (settled g) := by
  have hsettled : ∀ {m : Option MoveRecord} {f : Option FinalHalt}, m = none → f = none →
      ({ g with move := m, finalHalt := f } : Machine.Group) = settled g := by
    rintro _ _ rfl rfl
    rfl
  cases hm : g.move with
  | none =>
    cases hf : g.finalHalt with
    | none =>
      rw [endOldChannel_none hg hm hf]
      exact ⟨(frees_nothing (.refl i s)).congr fun c p => by simp [oldPlaces, hm, hf], by rw [hg, ← hsettled hm hf]⟩
    | some h =>
      obtain ⟨hfrees, hgroup⟩ := frees_endedHalt h hg
      have heq : s.endOldChannel i = endedHalt s i h := by
        simp only [State.endOldChannel, hg, hm, hf]
        rfl
      rw [heq]
      exact ⟨hfrees.congr fun c p => by simp [oldPlaces, hm, hf, place], by rw [hgroup, ← hsettled hm rfl]⟩
  | some m =>
    obtain ⟨hfrees, hgroup⟩ := frees_endedMove m hg
    cases hf : g.finalHalt with
    | none =>
      have heq : s.endOldChannel i = endedMove s i m := by
        simp only [State.endOldChannel, hg, hm, hf]
        rfl
      rw [heq]
      exact ⟨hfrees.congr fun c p => by simp [oldPlaces, hm, hf, place], by rw [hgroup, ← hsettled rfl hf]⟩
    | some h =>
      obtain ⟨hfrees', hgroup'⟩ := frees_endedHalt h hgroup
      have heq : s.endOldChannel i = endedHalt (endedMove s i m) i h := by
        simp only [State.endOldChannel, hg, hm, hf]
        rfl
      rw [heq]
      exact ⟨(hfrees.trans hfrees').congr fun c p => by simp [oldPlaces, hm, hf, place], hgroup'⟩

/-- R55, R148, R158: a sound record's old phases are on other channels than its own. -/
theorem holds_settled {g : Machine.Group} (h : g.Sound) (c : Chan) (p : Phase) :
    (settled g).holds c p ↔ g.holds c p ∧ ¬ oldPlaces g c p := by
  have hmine : (settled g).holds c p ↔ g.channel = c ∧ g.phase = p := by simp [Group.holds, settled]
  have hsplit : g.holds c p ↔ (g.channel = c ∧ g.phase = p) ∨ oldPlaces g c p := Iff.rfl
  have hapart : g.channel = c ∧ g.phase = p → ¬ oldPlaces g c p := by
    rintro ⟨hc, -⟩ (⟨m, hm, hmc, -⟩ | ⟨x, hx, hxc, -⟩)
    · exact (h.move.1 m hm).2.2.2 (hmc.trans hc.symm)
    · exact h.move.2 x hx (hxc.trans hc.symm)
  rw [hmine, hsplit]
  constructor
  · exact fun hown => ⟨.inl hown, hapart hown⟩
  · rintro ⟨hown | hold, hnot⟩
    · exact hown
    · exact absurd hold hnot

/-! ### The start of a release -/

/-- R41: a record whose release has begun, with all that it ends. -/
def released (g : Machine.Group) : Machine.Group := settled { releasing g with join := none }

theorem sound_released {g : Machine.Group} (h : g.Sound) : (released g).Sound := by
  obtain ⟨hl, hd, hcrew, hlen, hpos, hptr, hdrop, hn⟩ := h.size
  exact ⟨nofun, nofun, nofun, h.stop, rfl, nofun, ⟨nofun, nofun⟩, hl, hd, hcrew, hlen, hpos, hptr, hdrop, hn⟩

theorem releasing_idle {g : Machine.Group} (h : g.state = .releasing) : ¬ InService g := by
  rw [InService, h]
  simp

/-- R41: the start of a release up to the withdrawal of the floors. -/
def standingDown (s : State) (i : SlotId) (g : Machine.Group) : State :=
  (((((disarmed s i).withdraw g.channel (.phase g.phase) .beat).withdraw g.channel (.phase g.phase) .halt).orphan i
    fun f => f.isBeat || f.isOldHalt || f.isMove).cancelJoin i false).endOldChannel i

theorem startRelease_eq {s : State} {i : SlotId} {g : Machine.Group} (hg : s.group i = some g) :
    s.startRelease i = (((standingDown s i g).withdrawGroup channels g.radios).modGroup i fun g =>
      { g with wait := some { kind := .release, expiry := none } }).raise g.channel (.phase g.phase) .release .plain := by
  simp only [State.startRelease, hg]
  rfl

theorem evolves_startRelease (s : State) (i : SlotId) : Evolves s (s.startRelease i) := by
  cases hg : s.group i with
  | none => simp only [State.startRelease, hg]; exact .refl s
  | some g =>
    set g₁ : Machine.Group := { g with state := .releasing, order := none, approach := none, window := none } with hg₁
    set v := ((((disarmed s i).withdraw g.channel (.phase g.phase) .beat).withdraw g.channel (.phase g.phase) .halt).orphan
      i fun f => f.isBeat || f.isOldHalt || f.isMove) with hv
    set y := v.cancelJoin i false with hy
    have hvg : v.group i = some g₁ := by
      rw [hv, group_orphan, group_withdraw, group_withdraw, group_of_body (by rw [slot_disarmed hg])]
    have hdisarmed : Local i s (disarmed s i) := ((((Local.modGroup s i _).trans (.mark _ i)).trans
      (local_dropOrder _ i)).trans (local_dropApproach _ i)).trans (.modGroup _ i _)
    have hlocal : Local i s v := ((hdisarmed.trans (.withdraw i _ _ _ _)).trans (.withdraw i _ _ _ _)).trans
      (.orphan i _ i _)
    have hkeeps : Keeps g g₁ := keeps_rfl rfl rfl rfl rfl rfl rfl
    have hyg : y.group i = some { g₁ with join := none } := group_of_body (by rw [hy, slot_cancelJoin false hvg])
    obtain ⟨hfrees, hzg⟩ := frees_endOldChannel hyg
    have hzdef : standingDown s i g = y.endOldChannel i := rfl
    set z := y.endOldChannel i with hz
    set w := z.withdrawGroup channels g.radios with hw
    have hwg : w.group i = some (settled { g₁ with join := none }) :=
      group_of_body (by rw [hw, slot_withdrawGroup _ _ hzg (releasing_idle rfl), slot_eq hzg])
    have hstart := startRelease_eq hg
    rw [hzdef, ← hw] at hstart
    have hend : Local i w (s.startRelease i) := by
      rw [hstart]
      exact (Local.modGroup w i _).trans (.raise i _ _ _ _ _)
    have hug : (s.startRelease i).group i = some (released g) := by
      rw [hstart, group_raise, group_modGroup_self, hwg]
      rfl
    have hmildDown : ∀ E : Chan → Radio → Prop, (∀ r ∈ g.radios, E g.channel r) → Mild (· = i) E s z := fun E hE => by
      have hfirst : Mild (· = i) E s v := hlocal.mild hg hvg hkeeps (fun h => absurd rfl h) (.of_exempt hE)
      have hlast : Mild (· = i) E y z := hfrees.toShift.mild hyg hzg (.refl _) rfl (fun h => absurd rfl h)
        (.of_idle fun h => releasing_idle (g := { g₁ with join := none }) rfl h.1)
      exact hfirst.trans ((calm_cancelJoin v i false).1.trans hlast)
    have hmildEnd : Mild (· = i) noHolder w (s.startRelease i) :=
      hend.mild hwg hug (keeps_rfl rfl rfl rfl rfl rfl rfl) (fun h => absurd rfl h) (.of_idle fun h => releasing_idle rfl h.1)
    have hbase : Base (· = i) s (s.startRelease i) := (hmildDown (fun _ _ => True) fun _ _ => trivial).toBase.trans
      ((mild_withdrawGroup (E := noHolder) z _ _).toBase.trans hmildEnd.toBase)
    refine evolves_of_base hbase (fun j hj => ?_) (fun hgroups hp => ?_) fun _ _ _ _ hf => ?_
    · subst hj
      rw [hg, hug]
      exact .of_fine ⟨sound_released, fun _ _ => ⟨nofun, nofun⟩⟩
    · have hstill : Still s y := (hlocal.still hg hvg hkeeps).trans (calm_cancelJoin (X := noSlot) (E := noHolder) v i false).2
      have hafter : Still z (s.startRelease i) := (still_withdrawGroup z _ _).trans (hend.still hwg hug
        (keeps_rfl rfl rfl rfl rfl rfl rfl))
      refine hafter.phasesSound (phasesSound_freed (D := oldPlaces g) hyg hfrees.others hfrees.freed hfrees.kept
        (fun c p hD => .inr hD) (fun c p => ?_) (hstill.phasesSound hp))
      rw [hzg]
      simp only [Option.some.injEq, exists_eq_left']
      exact holds_settled (hgroups i g hg) c p
    · refine floorsSound_iff.mpr (hmildEnd.floors (floorsBut_withdrawGroup channels g.radios ?_))
      exact (hmildDown _ fun r hr => Or.inr ⟨List.mem_finRange _, hr⟩).floors ((floorsSound_iff.mp hf).mono fun _ _ h => h.elim)

/-! ### Radios that return -/

/-- R10: radios come back to the table, as far as it has room. -/
structure Returns (rs : List Radio) (s u : State) : Prop where
  slots : u.slots = s.slots
  chans : u.chans = s.chans
  values : valuesOf u = valuesOf s
  table : ∃ l : List RegEntry, u.table = s.table ++ l ∧ (l.map (·.radio)).Sublist rs ∧ (∀ e ∈ l, e.pinned = none)
    ∧ (s.table.length ≤ 96 → u.table.length ≤ 96)

theorem Returns.none (s : State) : Returns [] s s := ⟨rfl, rfl, rfl, [], by simp, .slnil, by simp, id⟩

theorem Returns.trans {rs rs' : List Radio} {a b c : State} (h : Returns rs a b) (h' : Returns rs' b c) :
    Returns (rs ++ rs') a c := by
  obtain ⟨l, hl, hsub, hpin, hcap⟩ := h.table
  obtain ⟨l', hl', hsub', hpin', hcap'⟩ := h'.table
  refine ⟨h'.slots.trans h.slots, h'.chans.trans h.chans, h'.values.trans h.values, l ++ l', ?_, ?_, fun e he => ?_,
    fun hlen => hcap' (hcap hlen)⟩
  · rw [hl', hl, List.append_assoc]
  · rw [List.map_append]
    exact hsub.append hsub'
  · exact (List.mem_append.mp he).elim (hpin e) (hpin' e)

theorem returns_returnRadio (s : State) (r : Radio) (k : RadioKind) (c : Chan) : Returns [r] s (s.returnRadio r k c) := by
  unfold State.returnRadio
  split
  · next h =>
    refine ⟨rfl, rfl, rfl, _, rfl, by simp, by simp, fun _ => ?_⟩
    have := tableHasRoom_iff.mp h
    simp only [State.appendEntry, List.length_append, List.length_singleton]
    omega
  · exact ⟨rfl, rfl, rfl, [], by simp, List.nil_sublist _, by simp, id⟩

theorem returns_foldl (c : Chan) (l : List (Radio × RadioKind)) (s : State) :
    Returns (l.map (·.1)) s (l.foldl (fun s p => s.returnRadio p.1 p.2 c) s) := by
  induction l generalizing s with
  | nil => exact .none s
  | cons p l ih => exact (returns_returnRadio s p.1 p.2 c).trans (ih _)

/-- A list of what each index holds, when one index gives up `N`. -/
theorem perm_flatMap_move {α β : Type} {f g : α → List β} {a : α} {N : List β} {l : List α} (hl : l.Nodup) (ha : a ∈ l)
    (hother : ∀ b, b ≠ a → f b = g b) (h : (f a).Perm (N ++ g a)) : (l.flatMap f).Perm (N ++ l.flatMap g) := by
  induction l with
  | nil => cases ha
  | cons b l ih =>
    obtain ⟨hb, hl'⟩ := List.nodup_cons.mp hl
    rw [List.flatMap_cons, List.flatMap_cons]
    by_cases hba : b = a
    · subst hba
      have hsame : l.flatMap f = l.flatMap g := List.flatMap_congr fun x hx => hother x (ne_of_mem_of_not_mem hx hb)
      rw [hsame, ← List.append_assoc]
      exact h.append_right _
    · rw [hother b hba]
      have hrest := ih hl' ((List.mem_cons.mp ha).resolve_left (Ne.symm hba))
      exact (hrest.append_left _).trans (List.perm_append_comm_assoc _ _ _)

/-- R12: one slot gives up the radios `N`. -/
theorem perm_radios_move {s u : State} {i : SlotId} {N : List Radio} (hothers : ∀ j, j ≠ i → radiosAt s j = radiosAt u j)
    (h : (radiosAt s i).Perm (N ++ radiosAt u i)) :
    (slotIds.flatMap (radiosAt s)).Perm (N ++ slotIds.flatMap (radiosAt u)) :=
  perm_flatMap_move (List.nodup_finRange _) (List.mem_finRange i) hothers h

theorem entry_append {s u : State} {l : List RegEntry} (ht : u.table = s.table ++ l) {r : Radio} {e : RegEntry}
    (he : s.entry r = some e) : u.entry r = some e := by
  have he' : s.table.find? (fun e => e.radio == r) = some e := he
  rw [State.entry, ht, List.find?_append, he']
  rfl

/-- R12: a table that has taken in unpinned entries of radios that left the slots. -/
theorem radiosSound_appended {s u : State} {l : List RegEntry} (ht : u.table = s.table ++ l) (hpin : ∀ e ∈ l, e.pinned = none)
    (hcap : u.table.length ≤ 96) (hone : u.knownRadios.Nodup) (hj : ∀ i, joinAt u i = joinAt s i) (h : s.RadiosSound) :
    u.RadiosSound := by
  refine ⟨hone, hcap, fun e he i hi => ?_, fun i r hi => ?_⟩
  · rw [ht] at he
    rcases List.mem_append.mp he with he | he
    · exact (hj i).trans (h.pinned e he i hi)
    · rw [hpin e he] at hi
      cases hi
  · have hold := h.joined i r ((hj i).symm.trans hi)
    obtain ⟨e, he, hp⟩ := Option.bind_eq_some_iff.mp hold
    rw [entry_append ht he]
    exact hp

/-! ### Retirement -/

theorem frees_freePhases (i : SlotId) (s : State) (g : Machine.Group) : Frees i g.holds s (s.freePhases g) := by
  have hown := Frees.freePhase i s g.channel g.phase
  unfold State.freePhases
  cases hm : g.move with
  | none =>
    cases hf : g.finalHalt with
    | none => exact hown.congr fun c p => by simp [Group.holds, hm, hf, place]
    | some h =>
      exact (hown.trans (.freePhase i _ h.chan h.phase)).congr fun c p => by simp [Group.holds, hm, hf, place]
  | some m =>
    have hold := hown.trans (.freePhase i _ m.oldChan m.oldPhase)
    cases hf : g.finalHalt with
    | none => exact hold.congr fun c p => by simp [Group.holds, hm, hf, place]
    | some h =>
      exact (hold.trans (.freePhase i _ h.chan h.phase)).congr fun c p => by
        simp [Group.holds, hm, hf, place, or_assoc]

theorem local_withdrawSources (i : SlotId) (s : State) (g : Machine.Group) : Local i s (s.withdrawSources g) := by
  have hown := Local.withdrawSource i s g.channel (.phase g.phase)
  unfold State.withdrawSources
  cases g.move with
  | none =>
    cases g.finalHalt with
    | none => exact hown
    | some h => exact hown.trans (.withdrawSource i _ _ _)
  | some m =>
    have hold := hown.trans (.withdrawSource i _ m.oldChan (.phase m.oldPhase))
    cases g.finalHalt with
    | none => exact hold
    | some h => exact hold.trans (.withdrawSource i _ _ _)

/-- R44: a retirement before its radios return. -/
def emptied (s : State) (i : SlotId) (g : Machine.Group) : State :=
  (((((s.modGroup i fun g => { g with state := .releasing }).cancelJoin i false).withdrawGroup channels
    g.radios).withdrawSources g).orphan i fun _ => true)

/-- R44: a retirement after its radios have returned and its phases are free. -/
def vacant (s : State) (i : SlotId) (g : Machine.Group) (o : SlotOutcome) : State :=
  ((((g.returned o).foldl (fun s p => s.returnRadio p.1 p.2 g.channel) (emptied s i g)).freePhases g).setSlot i
    { changed := true, body := .free o })

theorem retire_vacant {s : State} {i : SlotId} {g : Machine.Group} (o : SlotOutcome) (hg : s.group i = some g) :
    s.retire i o = { (if o = .openFailed then (vacant s i g o).holdPairing g.pairing else vacant s i g o) with
      examine := true } := by
  simp only [State.retire, hg]
  rfl

theorem evolves_holdPairing (s : State) (k : Option PairingId) : Evolves s (s.holdPairing k) := by
  obtain ⟨q, hq⟩ := holdPairing_shape s k
  rw [hq]
  exact evolves_of_eq rfl rfl rfl rfl

theorem returned_radios (g : Machine.Group) (o : SlotOutcome) : ((g.returned o).map (·.1)).Sublist g.radios := by
  have hcrew : (g.crew.map fun m => (m.radio, RadioKind.handset)).map (·.1) = g.crew.map (·.radio) := by
    rw [List.map_map]
    rfl
  unfold Group.returned Group.radios
  rw [List.map_cons, List.map_cons]
  refine .cons_cons _ (.cons_cons _ ?_)
  split
  · exact List.nil_sublist _
  · rw [hcrew]

/-- R44: the record of a slot that is being emptied. -/
def emptying (g : Machine.Group) : Machine.Group := { g with state := .releasing, join := none }

theorem emptying_idle (g : Machine.Group) : ¬ InService (emptying g) := releasing_idle rfl

/-- R44: what a retirement has done before its radios return. -/
structure Emptied (i : SlotId) (g : Machine.Group) (s z : State) : Prop where
  group : z.group i = some (emptying g)
  base : Base (· = i) s z
  still : Still s z
  floors : FloorsBut noHolder s → FloorsBut noHolder z

theorem emptied_emptied {s : State} {i : SlotId} {g : Machine.Group} (hg : s.group i = some g) :
    Emptied i g s (emptied s i g) := by
  obtain ⟨v, hv⟩ : ∃ v, v = s.modGroup i fun g => { g with state := .releasing } := ⟨_, rfl⟩
  obtain ⟨y, hy⟩ : ∃ y, y = v.cancelJoin i false := ⟨_, rfl⟩
  obtain ⟨w, hw⟩ : ∃ w, w = y.withdrawGroup channels g.radios := ⟨_, rfl⟩
  obtain ⟨z, hz⟩ : ∃ z, z = (w.withdrawSources g).orphan i fun _ => true := ⟨_, rfl⟩
  have hzdef : emptied s i g = z := by rw [hz, hw, hy, hv, emptied]
  rw [hzdef]
  have hvg : v.group i = some { g with state := .releasing } := by rw [hv, group_modGroup_self, hg]; rfl
  have hlocal : Local i s v := hv ▸ .modGroup s i _
  have hkeeps : Keeps g { g with state := .releasing } := keeps_rfl rfl rfl rfl rfl rfl rfl
  have hyg : y.group i = some (emptying g) := group_of_body (by rw [hy, slot_cancelJoin false hvg]; rfl)
  have hwg : w.group i = some (emptying g) :=
    group_of_body (by rw [hw, slot_withdrawGroup _ _ hyg (emptying_idle g), slot_eq hyg])
  have hwz : Local i w z := hz ▸ (local_withdrawSources i w g).trans (.orphan i _ i _)
  have hzg : z.group i = some (emptying g) := by
    have hsources : (w.withdrawSources g).group i = w.group i := by
      unfold State.withdrawSources
      cases g.move <;> cases g.finalHalt <;> rfl
    rw [hz, group_orphan, hsources, hwg]
  have hmild : ∀ E : Chan → Radio → Prop, (∀ r ∈ g.radios, E g.channel r) → Mild (· = i) E s y := fun E hE => by
    have hfirst : Mild (· = i) E s v := hlocal.mild hg hvg hkeeps (fun h => absurd rfl h) (.of_exempt hE)
    exact hy ▸ hfirst.trans (calm_cancelJoin v i false).1
  have hmildEnd : Mild (· = i) noHolder w z := hwz.mild_of_groups (hzg.trans hwg.symm)
  have hmiddle : Mild (· = i) noHolder y w := hw ▸ mild_withdrawGroup y _ _
  have hstillMiddle : Still v w := (hy ▸ (calm_cancelJoin (X := noSlot) (E := noHolder) v i false).2 : Still v y).trans
    (hw ▸ still_withdrawGroup y _ _)
  refine ⟨hzg, (hmild (fun _ _ => True) fun _ _ => trivial).toBase.trans (hmiddle.toBase.trans hmildEnd.toBase),
    (hlocal.still hg hvg hkeeps).trans (hstillMiddle.trans (hwz.still hwg hzg (.refl _))), fun hf => ?_⟩
  refine hmildEnd.floors (hw ▸ floorsBut_withdrawGroup channels g.radios ?_)
  exact (hmild _ fun r hr => Or.inr ⟨List.mem_finRange _, hr⟩).floors (hf.mono fun _ _ h => h.elim)

/-- R10, R44, R55: radios return, the phases are freed and the slot is empty. -/
structure Vacated (i : SlotId) (g : Machine.Group) (rs : List Radio) (z u : State) : Prop where
  group : u.group i = none
  others : ∀ j, j ≠ i → u.group j = z.group j
  values : valuesOf u = valuesOf z
  chans : ∀ c, ChanStep (z.chan c) (u.chan c)
  talk : ∀ c, (u.chan c).talk = (z.chan c).talk
  freed : ∀ c p, g.holds c p → (u.chan c).occupancy.get p = none
  kept : ∀ c p, ¬ g.holds c p → (u.chan c).occupancy.get p = (z.chan c).occupancy.get p
  table : ∃ l : List RegEntry, u.table = z.table ++ l ∧ (l.map (·.radio)).Sublist rs ∧ (∀ e ∈ l, e.pinned = none)
    ∧ (z.table.length ≤ 96 → u.table.length ≤ 96)

theorem vacated_of {i : SlotId} {g : Machine.Group} {rs : List Radio} {z x y u : State} {o : SlotOutcome}
    (hreturns : Returns rs z x) (hfrees : Frees i g.holds x y) (hu : u = y.setSlot i { changed := true, body := .free o }) :
    Vacated i g rs z u := by
  have hchan : ∀ c, u.chan c = y.chan c := fun c => by rw [hu]; rfl
  have hxchan : ∀ c, x.chan c = z.chan c := chan_congr hreturns.chans
  have htable : u.table = x.table := by rw [hu]; exact hfrees.table
  refine ⟨?_, fun j hj => ?_, ?_, fun c => ?_, fun c => ?_, fun c p hD => ?_, fun c p hD => ?_, ?_⟩
  · rw [hu]
    exact group_setSlot_free ..
  · rw [hu, group_setSlot_ne _ _ (Ne.symm hj), hfrees.others j hj, group_congr hreturns.slots]
  · rw [hu]
    exact hfrees.values.trans hreturns.values
  · rw [hchan, ← hxchan]
    exact hfrees.chans c
  · rw [hchan, ← hxchan]
    exact hfrees.talk c
  · rw [hchan]
    exact hfrees.freed c p hD
  · rw [hchan, hfrees.kept c p hD, hxchan]
  · rw [htable]
    exact hreturns.table

theorem radiosSound_vacated {i : SlotId} {g : Machine.Group} {rs : List Radio} {z u : State} (h : Vacated i g rs z u)
    {g' : Machine.Group} (hz : z.group i = some g') (hj : g'.join = none) (hrs : rs.Subperm g'.radios) (hr : z.RadiosSound) :
    u.RadiosSound := by
  obtain ⟨l, hl, hsub, hpin, hcap⟩ := h.table
  refine radiosSound_appended hl hpin (hcap hr.capacity) ?_ (fun j => ?_) hr
  · have hmoved : (slotIds.flatMap (radiosAt z)).Perm (g'.radios ++ slotIds.flatMap (radiosAt u)) :=
      perm_radios_move (i := i) (fun j hj => by rw [radiosAt, radiosAt, h.others j hj]) (by
        rw [radiosAt, radiosAt, hz, h.group]
        exact .of_eq (List.append_nil _).symm)
    have hknown := hr.onePlace
    rw [knownRadios_eq] at hknown ⊢
    rw [hl, List.map_append, List.append_assoc]
    refine nodup_of_subperm (.append (.refl _) (List.Subperm.trans ?_ hmoved.symm.subperm)) hknown
    exact (hsub.subperm.trans hrs).append (.refl _)
  · by_cases hji : j = i
    · rw [hji, joinAt, joinAt, h.group, hz]
      simp [hj]
    · rw [joinAt, joinAt, h.others j hji]

theorem slotStep_freed (w : Nat) (x : Option Machine.Group) : SlotStep w x none :=
  ⟨fun _ y hy => absurd hy.symm (Option.some_ne_none y), fun _ _ y hy => absurd hy.symm (Option.some_ne_none y)⟩

theorem evolves_vacated {i : SlotId} {g : Machine.Group} {rs : List Radio} {s z u : State} (hg : s.group i = some g)
    (hempty : Emptied i g s z) (h : Vacated i g rs z u) (hrs : rs.Subperm g.radios) : Evolves s u := by
  have hbase : Base (· = i) z u := ⟨h.values, h.chans, fun j hj => by rw [h.others j hj]; exact .refl _ _,
    radiosSound_vacated h hempty.group rfl hrs⟩
  refine evolves_of_base (hempty.base.trans hbase) (fun j hj => ?_) (fun _ hp => ?_) fun _ _ _ _ hf => ?_
  · rw [hj, h.group]
    exact slotStep_freed _ _
  · refine phasesSound_freed (D := g.holds) hempty.group h.others h.freed h.kept (fun c p hD => hD) (fun c p => ?_)
      (hempty.still.phasesSound hp)
    have hsame : (emptying g).holds c p ↔ g.holds c p := Iff.rfl
    rw [h.group, hsame]
    simp
  · refine floorsSound_iff.mpr fun c x hx => ?_
    have hother : ∀ j y, u.group j = some y → j ≠ i := fun j y hy hj => by
      rw [hj, h.group] at hy
      cases hy
    refine (hempty.floors (floorsSound_iff.mp hf) c x (h.talk c ▸ hx)).imp
      (talkEligible_lasts (fun j y hy hry => ⟨y, h.others j (hother j y hy) ▸ hy, hry⟩)
        fun j y hy hry hc hsv hmv => ?_) id
    have hj : j ≠ i := by
      rintro rfl
      rw [hempty.group] at hy
      exact emptying_idle g (Option.some.inj hy ▸ hsv)
    exact ⟨y, by rw [h.others j hj]; exact hy, hry, hc, hsv, hmv⟩

theorem evolves_vacant {s : State} {i : SlotId} {g : Machine.Group} (o : SlotOutcome) (hg : s.group i = some g) :
    Evolves s (vacant s i g o) :=
  evolves_vacated hg (emptied_emptied hg)
    (vacated_of (returns_foldl g.channel (g.returned o) _) (frees_freePhases i _ g) rfl)
    (returned_radios g o).subperm

theorem evolves_retire (s : State) (i : SlotId) (o : SlotOutcome) : Evolves s (s.retire i o) := by
  cases hg : s.group i with
  | none => simp only [State.retire, hg]; exact .refl s
  | some g =>
    rw [retire_vacant o hg]
    refine (evolves_vacant o hg).trans (.trans ?_ (evolves_examine _ true))
    exact .ite (fun _ => evolves_holdPairing _ _) fun _ => .refl _

end Sys2Proof.ReturnProofs
end

section
/-!
Radios between the Registration Table and the groups (R3, R4, R8, R9, R25, R34, R38): a slot that takes radios from the
table, a registration, an expiry, an admission, a leave and an opening, each shown to evolve the state.
-/
namespace Sys2Proof.TableProofs
open Sys2Proof Sys2Proof.Machine Sys2Proof.Machine.Laws Sys2Proof.CommandProofs Sys2Proof.DeviceProofs
  Sys2Proof.PortProofs Sys2Proof.SlotProofs Sys2Proof.RecordProofs Sys2Proof.FrameProofs Sys2Proof.FloorProofs
  Sys2Proof.HaltProofs Sys2Proof.MemberProofs Sys2Proof.ReleaseProofs Sys2Proof.EvolveProofs Sys2Proof.CalmProofs
  Sys2Proof.EntryProofs Sys2Proof.ActProofs Sys2Proof.EvolvesProofs Sys2Proof.AirProofs Sys2Proof.ReturnProofs

/-! ### Radios that a slot takes from the table -/

/-- R9: each of the radios has an entry, pinned to no other slot than `i`. -/
def Registered (i : SlotId) (rs : List Radio) (s : State) : Prop :=
  ∀ r ∈ rs, ∃ e, s.entry r = some e ∧ (e.pinned = none ∨ e.pinned = some i)

/-- R9, R25, R34: slot `i` takes the radios `rs`, whose entries leave the table. -/
structure Takes (i : SlotId) (rs : List Radio) (s u : State) : Prop where
  others : ∀ j, j ≠ i → u.group j = s.group j
  values : valuesOf u = valuesOf s
  chans : ∀ c, ChanStep (s.chan c) (u.chan c)
  talk : ∀ c, (u.chan c).talk = (s.chan c).talk
  table : u.table = s.table.filter fun e => decide (e.radio ∉ rs)
  distinct : rs.Nodup
  radios : (radiosAt u i).Perm (rs ++ radiosAt s i)
  joins : ∀ r, joinAt s i = some r → r ∈ rs
  joined : joinAt u i = none

theorem mem_of_entry {s : State} {r : Radio} {e : RegEntry} (h : s.entry r = some e) : e ∈ s.table ∧ e.radio = r :=
  ⟨List.mem_of_find?_eq_some h, by simpa using List.find?_some h⟩

theorem entry_filter_notMem (l : List RegEntry) (rs : List Radio) {x : Radio} (h : x ∉ rs) :
    (l.filter fun e => decide (e.radio ∉ rs)).find? (fun e => e.radio == x) = l.find? fun e => e.radio == x := by
  rw [List.find?_filter]
  refine congrArg (fun p => l.find? p) (funext fun e => ?_)
  by_cases he : e.radio = x
  · simp [he, h]
  · simp [he]

theorem knownRadios_taken {i : SlotId} {rs : List Radio} {s u : State} (h : Takes i rs s u)
    (hin : Registered i rs s) (hr : s.knownRadios.Nodup) : u.knownRadios.Nodup := by
  have hmoved : (slotIds.flatMap (radiosAt u)).Perm (rs ++ slotIds.flatMap (radiosAt s)) :=
    perm_radios_move (fun j hj => by rw [radiosAt, radiosAt, h.others j hj]) h.radios
  rw [knownRadios_eq] at hr ⊢
  obtain ⟨htable, -, -⟩ := List.nodup_append.mp hr
  have hkept : (u.table.map (·.radio)).Sublist (s.table.map (·.radio)) := h.table ▸ List.filter_sublist.map _
  have hapart : (u.table.map (·.radio) ++ rs).Nodup := by
    refine List.nodup_append'.mpr ⟨htable.sublist hkept, h.distinct, fun r hr hrs => ?_⟩
    obtain ⟨e, he, rfl⟩ := List.mem_map.mp hr
    rw [h.table] at he
    simpa [hrs] using (List.mem_filter.mp he).2
  have hwithin : (u.table.map (·.radio) ++ rs).Subperm (s.table.map (·.radio)) :=
    List.subperm_of_subset hapart fun r hr => by
      rcases List.mem_append.mp hr with hr | hr
      · exact hkept.subset hr
      · obtain ⟨e, he, -⟩ := hin r hr
        obtain ⟨hmem, hradio⟩ := mem_of_entry he
        exact List.mem_map.mpr ⟨e, hmem, hradio⟩
  refine nodup_of_subperm (List.Subperm.trans (hmoved.append_left _).subperm ?_) hr
  rw [← List.append_assoc]
  exact hwithin.append (.refl _)

/-- R12: a slot that takes radios from the table leaves each radio in one place. -/
theorem radiosSound_taken {i : SlotId} {rs : List Radio} {s u : State} (h : Takes i rs s u)
    (hin : Registered i rs s) (hs : s.RadiosSound) : u.RadiosSound := by
  have hjoins : ∀ j, j ≠ i → joinAt u j = joinAt s j := fun j hj => by rw [joinAt, joinAt, h.others j hj]
  refine ⟨knownRadios_taken h hin hs.onePlace, ?_, fun e he j hj => ?_, fun j r hr => ?_⟩
  · rw [h.table]
    exact (List.length_filter_le _ _).trans hs.capacity
  · rw [h.table] at he
    obtain ⟨hmem, hout⟩ := List.mem_filter.mp he
    have hjoin : joinAt s j = some e.radio := hs.pinned e hmem j hj
    have hji : j ≠ i := by
      rintro rfl
      simpa using absurd (h.joins _ hjoin) (by simpa using hout)
    exact (hjoins j hji).trans hjoin
  · have hji : j ≠ i := by
      rintro rfl
      exact absurd (h.joined.symm.trans hr) (by simp)
    have hpin := hs.joined j r ((hjoins j hji).symm.trans hr)
    have hout : r ∉ rs := fun hrs => by
      obtain ⟨e, he, hpinned⟩ := hin r hrs
      rw [he] at hpin
      have hpin' : e.pinned = some j := hpin
      rcases hpinned with hp | hp <;> rw [hp] at hpin'
      · cases hpin'
      · exact hji (Option.some.inj hpin').symm
    rw [State.entry, h.table, entry_filter_notMem _ _ hout]
    exact hpin

theorem mem_radiosAt {s : State} {j : SlotId} {g : Machine.Group} {r : Radio} (hg : s.group j = some g) (hr : r ∈ g.radios) :
    r ∈ slotIds.flatMap (radiosAt s) :=
  List.mem_flatMap.mpr ⟨j, List.mem_finRange j, by rw [radiosAt, hg]; exact hr⟩

/-- R12: a registered radio is in no group. -/
theorem registered_apart {s : State} (hs : s.RadiosSound) {r : Radio} {e : RegEntry} (he : s.entry r = some e) {j : SlotId}
    {g : Machine.Group} (hg : s.group j = some g) : r ∉ g.radios := fun hr => by
  have hone := hs.onePlace
  rw [knownRadios_eq] at hone
  obtain ⟨hmem, hradio⟩ := mem_of_entry he
  exact (List.nodup_append.mp hone).2.2 r (List.mem_map.mpr ⟨e, hmem, hradio⟩) r (mem_radiosAt hg hr) rfl

/-- R144: no floor holder is among the radios taken, so the floors stand. -/
theorem floors_taken {i : SlotId} {rs : List Radio} {s u : State} (h : Takes i rs s u)
    (hin : Registered i rs s) (hs : s.RadiosSound)
    (hown : ∀ g, s.group i = some g → ∃ g', u.group i = some g' ∧ g'.channel = g.channel ∧ g'.move = g.move
      ∧ (InService g → InService g')) (hf : s.FloorsSound) : u.FloorsSound := by
  refine floorsSound_iff.mpr fun c x hx => (floorsSound_iff.mp hf c x (h.talk c ▸ hx)).imp (fun helig => ?_) id
  obtain ⟨k, gk, hgk, hrk, -⟩ := talkEligible_iff.mp helig
  have hout : x.radio ∉ rs := fun hrs => by
    obtain ⟨e, he, -⟩ := hin _ hrs
    exact registered_apart hs he hgk hrk
  have hat : ∀ j, x.radio ∈ radiosAt u j ↔ x.radio ∈ radiosAt s j := fun j => by
    by_cases hj : j = i
    · rw [hj, h.radios.mem_iff, List.mem_append]
      exact or_iff_right hout
    · rw [radiosAt, radiosAt, h.others j hj]
  refine talkEligible_lasts (fun j y hy hry => ?_) (fun j y hy hry hc hsv hmv => ?_) helig
  · have hmem := (hat j).mp (by rw [radiosAt, hy]; exact hry)
    cases hg : s.group j with
    | none => simp [radiosAt, hg] at hmem
    | some g => exact ⟨g, rfl, by simpa [radiosAt, hg] using hmem⟩
  · by_cases hj : j = i
    · subst hj
      obtain ⟨g', hg', hch, hm, hserves⟩ := hown y hy
      have hmem := (hat j).mpr (by rw [radiosAt, hy]; exact hry)
      exact ⟨g', hg', by simpa [radiosAt, hg'] using hmem, hch.trans hc, hserves hsv, hm.trans hmv⟩
    · exact ⟨y, by rw [h.others j hj]; exact hy, hry, hc, hsv, hmv⟩

theorem evolves_taken {i : SlotId} {rs : List Radio} {s u : State} (h : Takes i rs s u)
    (hin : s.RadiosSound → Registered i rs s)
    (hslot : SlotStep s.device.warn (s.group i) (u.group i)) (hphases : s.GroupsSound → s.PhasesSound → u.PhasesSound)
    (hown : ∀ g, s.group i = some g → ∃ g', u.group i = some g' ∧ g'.channel = g.channel ∧ g'.move = g.move
      ∧ (InService g → InService g')) : Evolves s u :=
  evolves_of_base (X := (· = i))
    ⟨h.values, h.chans, fun j hj => by rw [h.others j hj]; exact .refl _ _, fun hr => radiosSound_taken h (hin hr) hr⟩
    (fun j hj => by rw [hj]; exact hslot) hphases fun _ _ hr _ hf => floors_taken h (hin hr) hr hown hf

/-! ### Admission -/

/-- R34: the record of a group whose pending join has been admitted. -/
def admitted (g : Machine.Group) (r : Radio) : Machine.Group :=
  { g with join := none, crew := g.crew ++ [{ radio := r, level := 7 }] }

theorem sound_admitted {g : Machine.Group} {r : Radio} (hj : g.join.isSome) (h : g.Sound) : (admitted g r).Sound := by
  obtain ⟨-, hroom⟩ := h.join hj
  obtain ⟨hl, hd, hcrew, hlen, hpos, hptr, hdrop, hn⟩ := h.size
  refine { h with join := nofun, size := ⟨hl, hd, fun m hm => ?_, ?_, hpos, fun p hp => ?_, hdrop, hn⟩ }
  · rcases List.mem_append.mp hm with hm | hm
    · exact hcrew m hm
    · rw [List.mem_singleton.mp hm]
  · simp only [admitted, List.length_append, List.length_singleton]
    omega
  · have := hptr p hp
    simp only [admitted, List.length_append, List.length_singleton]
    omega

theorem radios_admitted (g : Machine.Group) (r : Radio) : (admitted g r).radios.Perm (r :: g.radios) := by
  simp only [Group.radios, admitted, List.map_append, List.map_cons, List.map_nil, ← List.cons_append]
  exact List.perm_append_singleton _ _

/-- R34: an admission, with the entry's radio taken into the crew. -/
theorem evolves_admitJoin {s : State} {i : SlotId} {g : Machine.Group} {r : Radio} {j : PendingJoin}
    (hg : s.group i = some g) (hj : g.join = some j) (hr : j.radio = r) : Evolves s (s.admitJoin i g r) := by
  obtain ⟨v, hv⟩ : ∃ v, v = s.noticeToEntry r .admitted g.call := ⟨_, rfl⟩
  have hlocal : Local i s v := hv ▸ local_noticeToEntry i s _ _ _
  have hvg : v.group i = some g := by rw [hv, group_congr (noticeToEntry_slots ..), hg]
  have hform : s.admitJoin i g r
      = ({ v with table := s.table.filter fun e => e.radio != r } : State).setSlot i
          { changed := true, body := .held (admitted g r) } := by
    have htable : v.table = s.table := hlocal.table
    rw [State.admitJoin]
    rw [← hv, modGroup_eq _ hvg]
    have hdrop : (v.setSlot i { (v.slot i) with body := .held { g with join := none } }).dropEntry r
        = ({ v with table := s.table.filter fun e => e.radio != r } : State).setSlot i
            { (v.slot i) with body := .held { g with join := none } } := by
      rw [← htable]
      rfl
    rw [hdrop, modGroup_setSlot, mark_setSlot]
    rfl
  have hu := group_setSlot_held ({ v with table := s.table.filter fun e => e.radio != r } : State) i true (admitted g r)
  rw [← hform] at hu
  have hothers : ∀ k, k ≠ i → (s.admitJoin i g r).group k = s.group k := fun k hk => by
    rw [hform, group_setSlot_ne _ _ (Ne.symm hk)]
    exact hlocal.others k hk
  have hchan : ∀ c, (s.admitJoin i g r).chan c = v.chan c := fun c => by rw [hform]; rfl
  refine evolves_taken (rs := [r]) ⟨hothers, by rw [hform]; exact hlocal.values, fun c => hchan c ▸ hlocal.chans c,
    fun c => hchan c ▸ hlocal.talk c, ?_, List.nodup_singleton r, ?_, fun x hx => ?_, ?_⟩ (fun hs x hx => ?_) ?_
    (fun _ hp => phasesSound_of_slot hothers (fun c p k _ => ?_) (fun c p => ?_) hp) fun x hx => ?_
  · rw [hform]
    refine List.filter_congr fun x _ => ?_
    by_cases h : x.radio = r <;> simp [h]
  · rw [radiosAt, radiosAt, hu, hg]
    exact radios_admitted g r
  · rw [joinAt, hg] at hx
    simp [hj, hr] at hx
    simp [hx]
  · simp [joinAt, hu, admitted]
  · have hjoined := hs.joined i r (by rw [hg]; simp [hj, hr])
    obtain ⟨e, he, hpin⟩ := Option.bind_eq_some_iff.mp hjoined
    rw [List.mem_singleton.mp hx]
    exact ⟨e, he, .inr hpin⟩
  · rw [hg, hu]
    exact .of_fine ⟨sound_admitted (by simp [hj]), fun _ => warnOk_congr rfl rfl rfl⟩
  · rw [hchan, hlocal.occupancy]
  · rw [hchan, hlocal.occupancy, hu, hp c p i, hg]
    have hsame : (admitted g r).holds c p ↔ g.holds c p := Iff.rfl
    simp [hsame]
  · rw [hg] at hx
    cases hx
    exact ⟨_, hu, rfl, rfl, id⟩

/-! ### Opening -/

/-- R24: what the checks of an opening have found. -/
structure Openable (s : State) (o : Opening) (i : SlotId) (c : Chan) (p : Phase) : Prop where
  slot : s.group i = none
  phase : (s.chan c).occupancy.get p = none
  apart : o.loco ≠ o.leader
  loco : ∃ e, s.entry o.loco = some e ∧ e.pinned = none
  leader : ∃ e, s.entry o.leader = some e ∧ e.pinned = none

theorem freePhase_free {ch : Channel} {p : Phase} (h : ch.freePhase = some p) : ch.occupancy.get p = none := by
  simpa using List.find?_some h

theorem openPlace_free {s : State} {x : Option Chan} {c : Chan} {p : Phase} (h : s.openPlace x = .ok (c, p)) :
    (s.chan c).freePhase = some p := by
  unfold State.openPlace at h
  split at h
  · split at h
    · split at h
      · next hp => cases h; exact hp
      · cases h
    · cases h
  · split at h
    · next r hr =>
      cases h
      obtain ⟨d, -, hd⟩ := List.exists_of_findSome?_eq_some hr
      split at hd
      · obtain ⟨q, hq, hqr⟩ := Option.map_eq_some_iff.mp hd
        cases hqr
        exact hq
      · cases hd
    · cases h

theorem openRadios_unpinned {s : State} {loco leader : Radio} {c : Chan} (h : s.openRadios loco leader c = .ok ()) :
    loco ≠ leader ∧ (∃ e, s.entry loco = some e ∧ e.pinned = none) ∧ ∃ e, s.entry leader = some e ∧ e.pinned = none := by
  unfold State.openRadios at h
  split at h
  · cases h
  · next hne =>
    split at h
    · next a b ha hb =>
      split at h
      · cases h
      · split at h
        · cases h
        · split at h
          · cases h
          · next hpin =>
            obtain ⟨hpa, hpb⟩ : a.pinned = none ∧ b.pinned = none := by simpa using hpin
            exact ⟨hne, ⟨a, ha, hpa⟩, b, hb, hpb⟩
    · cases h

theorem openable_of_check {s : State} {o : Opening} {i : SlotId} {c : Chan} {p : Phase}
    (h : s.openCheck o = .ok (i, c, p)) : Openable s o i c p := by
  unfold State.openCheck at h
  split at h
  · cases h
  · split at h
    · cases h
    · next hslot =>
      split at h
      · cases h
      · next hplace =>
        split at h
        · cases h
        · next hradios =>
          cases h
          obtain ⟨hne, hloco, hleader⟩ := openRadios_unpinned hradios
          exact ⟨freeSlot_free hslot, freePhase_free (openPlace_free hplace), hne, hloco, hleader⟩

/-- R25: the group stands in its slot and its phase, before an asserted area line halts it. -/
def opened (s : State) (o : Opening) (i : SlotId) (c : Chan) (p : Phase) : State :=
  ((((s.dropEntry o.loco).dropEntry o.leader).setSlot i
    { changed := true, body := .held (o.record c p (o.area.getD (s.chan c).config.defaultArea)) }).takePhase c p i).raise c
      (.phase p) .attach .plain

theorem openGroup_eq (s : State) (o : Opening) (i : SlotId) (c : Chan) (p : Phase) :
    s.openGroup o i c p = if s.areaAsserted (o.area.getD (s.chan c).config.defaultArea) then
      (opened s o i c p).addCause i .area else opened s o i c p := rfl

theorem sound_record (o : Opening) (c : Chan) (p : Phase) (area : Area) : (o.record c p area).Sound := by
  refine ⟨fun _ => rfl, nofun, nofun, rfl, rfl, nofun, ⟨nofun, nofun⟩, ?_⟩
  exact ⟨le_refl 7, le_refl 7, nofun, by simp [Opening.record], by simp [Opening.record], nofun, by simp [Opening.record],
    by simp [Opening.record]⟩

theorem group_opened (s : State) (o : Opening) (i : SlotId) (c : Chan) (p : Phase) :
    (opened s o i c p).group i = some (o.record c p (o.area.getD (s.chan c).config.defaultArea)) :=
  group_setSlot_held ..

theorem evolves_opened {s : State} {o : Opening} {i : SlotId} {c : Chan} {p : Phase} (h : Openable s o i c p) :
    Evolves s (opened s o i c p) := by
  obtain ⟨u, hu⟩ : ∃ u, u = opened s o i c p := ⟨_, rfl⟩
  obtain ⟨v, hv⟩ : ∃ v, v = ((s.dropEntry o.loco).dropEntry o.leader).setSlot i
    { changed := true, body := .held (o.record c p (o.area.getD (s.chan c).config.defaultArea)) } := ⟨_, rfl⟩
  have huv : u = (v.takePhase c p i).raise c (.phase p) .attach .plain := by rw [hu, hv, opened]
  have hshift : Shift i v u := huv ▸ (Shift.takePhase i v c p i).trans (Local.raise i _ _ _ _ _).toShift
  have hvothers : ∀ j, j ≠ i → v.group j = s.group j := fun j hj => by
    rw [hv, group_setSlot_ne _ _ (Ne.symm hj)]
    rfl
  have hothers : ∀ j, j ≠ i → u.group j = s.group j := fun j hj => (hshift.others j hj).trans (hvothers j hj)
  have hvchan : ∀ d, v.chan d = s.chan d := fun d => by rw [hv]; rfl
  have hug := hu ▸ group_opened s o i c p
  have hocc : ∀ d q, (u.chan d).occupancy.get q = if c = d ∧ p = q then some i else (s.chan d).occupancy.get q := by
    intro d q
    rw [huv, (Local.raise i (v.takePhase c p i) c (.phase p) .attach .plain).occupancy, occupancy_takePhase, hvchan]
  rw [← hu]
  refine evolves_taken (rs := [o.loco, o.leader]) ⟨hothers, ?_, fun d => hvchan d ▸ hshift.chans d,
    fun d => hvchan d ▸ hshift.talk d, ?_, ?_, ?_, fun r hr => ?_, ?_⟩ (fun _ r hr => ?_) ?_
    (fun _ hp => phasesSound_taken hothers hocc h.phase (fun d q => ?_) hp) fun g hg => ?_
  · exact hshift.values.trans (by rw [hv]; rfl)
  · rw [hshift.table, hv]
    show (s.table.filter _).filter _ = _
    rw [List.filter_filter]
    refine List.filter_congr fun x _ => ?_
    by_cases hloco : x.radio = o.loco <;> by_cases hleader : x.radio = o.leader <;> simp [hloco, hleader]
  · simpa using h.apart
  · rw [radiosAt, radiosAt, hug, h.slot]
    exact .refl _
  · rw [joinAt, h.slot] at hr
    cases hr
  · rw [joinAt, hug]
    rfl
  · rcases List.mem_cons.mp hr with rfl | hr
    · obtain ⟨e, he, hpin⟩ := h.loco
      exact ⟨e, he, .inl hpin⟩
    · obtain ⟨e, he, hpin⟩ := h.leader
      exact ⟨e, List.mem_singleton.mp hr ▸ he, .inl hpin⟩
  · rw [hug]
    refine ⟨fun _ g hg => Option.some.inj hg ▸ sound_record .., fun _ _ g hg => Option.some.inj hg ▸ ?_⟩
    constructor <;> intro hstate <;> cases hstate
  · rw [hug, h.slot]
    simp [Group.holds, Opening.record]
  · rw [h.slot] at hg
    cases hg

theorem evolves_openGroup {s : State} {o : Opening} {i : SlotId} {c : Chan} {p : Phase} (h : Openable s o i c p) :
    Evolves s (s.openGroup o i c p) := by
  rw [openGroup_eq]
  exact .ite (fun _ => (evolves_opened h).trans (evolves_of_calm (calm_addCause _ i (by simp)))) fun _ => evolves_opened h

theorem evolves_tryPairing (s : State) (k : PairingId) : Evolves s (s.tryPairing k) := by
  unfold State.tryPairing
  dsimp only
  split
  · refine .ite (fun _ => ?_) fun _ => .refl s
    split
    · next hcheck => exact evolves_openGroup (openable_of_check hcheck)
    · exact .refl s
  · exact .refl s

theorem evolves_examinePairings (s : State) : Evolves s s.examinePairings :=
  .ite (fun _ => .foldl (f := State.tryPairing) evolves_tryPairing _ s) fun _ => .refl s

/-! ### The table alone -/

/-- A change of the table, with all else that the invariants read. -/
theorem evolves_of_table {s u : State} (hs : u.slots = s.slots) (hc : u.chans = s.chans) (hv : valuesOf u = valuesOf s)
    (hr : s.RadiosSound → u.RadiosSound) : Evolves s u := by
  have hg : ∀ i, u.group i = s.group i := group_congr hs
  have hch : ∀ c, u.chan c = s.chan c := chan_congr hc
  refine evolves_of_base (X := noSlot) ⟨hv, fun c => by rw [hch]; exact .refl _, fun i _ => by rw [hg]; exact .refl _ _, hr⟩
    (fun _ h => h.elim) (fun _ hp c p i => by rw [hch, hg]; exact hp c p i) fun _ _ _ _ hf => ?_
  exact floorsSound_iff.mpr (floorsBut_congr (fun c => by rw [hch]) hg (floorsSound_iff.mp hf))

/-- R6, R7: unpinned entries leave the table. -/
theorem radiosSound_filtered {s u : State} (keep : RegEntry → Bool) (hs : u.slots = s.slots)
    (ht : u.table = s.table.filter keep) (hk : ∀ e ∈ s.table, keep e = false → e.pinned = none) (h : s.RadiosSound) :
    u.RadiosSound := by
  have hg : ∀ i, u.group i = s.group i := group_congr hs
  have hradios : radiosAt u = radiosAt s := funext fun i => by rw [radiosAt, radiosAt, hg]
  refine ⟨?_, ?_, fun e he i hi => ?_, fun i r hr => ?_⟩
  · have hone := h.onePlace
    rw [knownRadios_eq] at hone ⊢
    rw [hradios, ht]
    exact hone.sublist ((List.filter_sublist.map _).append_right _)
  · rw [ht]
    exact (List.length_filter_le _ _).trans h.capacity
  · rw [hg]
    exact h.pinned e (List.mem_filter.mp (ht ▸ he)).1 i hi
  · rw [hg] at hr
    obtain ⟨e, he, hp⟩ := Option.bind_eq_some_iff.mp (h.joined i r hr)
    obtain ⟨hmem, -⟩ := mem_of_entry he
    have hkeep : keep e = true := by
      cases hke : keep e with
      | true => rfl
      | false => simp [hk e hmem hke] at hp
    have hfound : u.entry r = some e := by
      obtain ⟨hre, l₁, l₂, hl, hbefore⟩ := List.find?_eq_some_iff_append.mp he
      rw [State.entry, ht, List.find?_filter]
      refine List.find?_eq_some_iff_append.mpr ⟨by simp [hkeep, hre], l₁, l₂, hl, fun a ha => ?_⟩
      have := hbefore a ha
      simp only [Bool.not_eq_true'] at this
      simp [this]
    rw [hfound]
    exact hp

theorem evolves_registrationExpiry (s : State) (r : Radio) : Evolves s (s.registrationExpiry r) := by
  refine .ite (fun h => ?_) fun _ => .refl s
  cases he : s.entry r with
  | none => simp [he] at h
  | some e =>
    have hpin : e.pinned = none := by
      rw [he] at h
      simp only [Option.any_some, Bool.and_eq_true, Option.isNone_iff_eq_none] at h
      exact h.1
    refine evolves_of_table rfl rfl rfl fun hs => radiosSound_filtered (s := s) (fun x => x.radio != r) rfl rfl (fun x hx hxr => ?_) hs
    have hone := hs.onePlace
    rw [knownRadios_eq] at hone
    obtain ⟨hmem, hre⟩ := mem_of_entry he
    have hsame : x = e := List.inj_on_of_nodup_map (List.nodup_append.mp hone).1 hx hmem (by
      rw [hre]
      simpa using hxr)
    rw [hsame, hpin]

/-- R3: a registration of a radio in no place. -/
theorem radiosSound_registered {s u : State} {e : RegEntry} (hs : u.slots = s.slots) (ht : u.table = s.table ++ [e])
    (hpin : e.pinned = none) (hroom : s.table.length < 96) (hnew : e.radio ∉ s.knownRadios) (h : s.RadiosSound) :
    u.RadiosSound := by
  have hg : ∀ i, u.group i = s.group i := group_congr hs
  have hradios : radiosAt u = radiosAt s := funext fun i => by rw [radiosAt, radiosAt, hg]
  refine radiosSound_appended ht (fun x hx => List.mem_singleton.mp hx ▸ hpin) ?_ ?_ (fun i => by
    rw [joinAt, joinAt, hg]) h
  · rw [ht, List.length_append, List.length_singleton]
    omega
  · have hone := h.onePlace
    rw [knownRadios_eq] at hone hnew ⊢
    rw [hradios, ht, List.map_append, List.map_singleton, List.append_assoc]
    exact (List.perm_middle.nodup_iff).mpr (List.nodup_cons.mpr ⟨hnew, hone⟩)

/-- R12: a radio in no place is known nowhere. -/
theorem notMem_knownRadios {s : State} {r : Radio} (he : s.entry r = none) (hm : s.memberPlace r = none) :
    r ∉ s.knownRadios := by
  rw [knownRadios_eq]
  intro hr
  rcases List.mem_append.mp hr with hr | hr
  · obtain ⟨e, hmem, hre⟩ := List.mem_map.mp hr
    exact absurd (List.find?_eq_none.mp he e hmem) (by simp [hre])
  · obtain ⟨i, hi, hri⟩ := List.mem_flatMap.mp hr
    cases hg : s.group i with
    | none => simp [radiosAt, hg] at hri
    | some g =>
      have hin : r ∈ g.radios := by simpa [radiosAt, hg] using hri
      have hnone := List.findSome?_eq_none_iff.mp hm i hi
      rw [hg] at hnone
      have := roleOf_isSome_iff.mpr hin
      cases hrole : g.roleOf r with
      | none => simp [hrole] at this
      | some role => simp [hrole] at hnone

theorem evolves_releaseHolds (s : State) (r : Radio) : Evolves s (s.releaseHolds r) := evolves_of_eq rfl rfl rfl rfl

theorem evolves_channelFrame (s : State) (c : Chan) (b : ChannelBody) (r : Radio) (n : Nat) :
    Evolves s (s.channelFrame c b r n) := evolves_of_calm (calm_channelFrame s c b r n)

theorem evolves_register {s : State} {f : UplinkFrame} (c : Chan) (k : RadioKind) (he : s.entry f.sender = none)
    (hm : s.memberPlace f.sender = none) : Evolves s (s.register c f k) := by
  unfold State.register
  refine .ite (fun hroom => ?_) fun _ => (evolves_channelFrame s c _ _ _).trans (evolves_attend _ _)
  refine .trans ?_ (evolves_releaseHolds _ _)
  refine .trans ?_ (evolves_channelFrame _ _ _ _ _)
  exact evolves_of_table rfl rfl rfl (radiosSound_registered rfl rfl rfl (tableHasRoom_iff.mp hroom)
    (notMem_knownRadios he hm))

/-- R4: a fresh entry of the same radio with the same pin. -/
theorem radiosSound_replaced {s u : State} {e e' : RegEntry} {r : Radio} (hs : u.slots = s.slots)
    (ht : u.table = (s.table.filter fun x => x.radio != r) ++ [e']) (he : s.entry r = some e) (hr : e'.radio = r)
    (hp : e'.pinned = e.pinned) (h : s.RadiosSound) : u.RadiosSound := by
  obtain ⟨hmem, hre⟩ := mem_of_entry he
  have hg : ∀ i, u.group i = s.group i := group_congr hs
  have hradios : radiosAt u = radiosAt s := funext fun i => by rw [radiosAt, radiosAt, hg]
  have hone := h.onePlace
  rw [knownRadios_eq] at hone
  have hsub : (u.table.map (·.radio)).Subperm (s.table.map (·.radio)) := by
    refine List.subperm_of_subset ?_ fun x hx => ?_
    · rw [ht, List.map_append, List.map_singleton, hr]
      refine List.nodup_append'.mpr ⟨(List.nodup_append.mp hone).1.sublist (List.filter_sublist.map _),
        List.nodup_singleton r, fun x hx hxr => ?_⟩
      obtain ⟨a, ha, hax⟩ := List.mem_map.mp hx
      simpa [hax, List.mem_singleton.mp hxr] using (List.mem_filter.mp ha).2
    · obtain ⟨a, ha, rfl⟩ := List.mem_map.mp hx
      rw [ht] at ha
      rcases List.mem_append.mp ha with ha | ha
      · exact List.mem_map_of_mem (List.mem_filter.mp ha).1
      · exact List.mem_map.mpr ⟨e, hmem, by rw [List.mem_singleton.mp ha, hr, hre]⟩
  refine ⟨?_, ?_, fun a ha i hi => ?_, fun i x hx => ?_⟩
  · rw [knownRadios_eq, hradios]
    exact nodup_of_subperm (hsub.append (.refl _)) hone
  · have := hsub.length_le
    rw [List.length_map, List.length_map] at this
    exact this.trans h.capacity
  · rw [hg]
    rw [ht] at ha
    rcases List.mem_append.mp ha with ha | ha
    · exact h.pinned a (List.mem_filter.mp ha).1 i hi
    · rw [List.mem_singleton.mp ha] at hi ⊢
      rw [hr, ← hre]
      exact h.pinned e hmem i (hp ▸ hi)
  · rw [hg] at hx
    have hjoined := h.joined i x hx
    by_cases hxr : x = r
    · subst hxr
      rw [he] at hjoined
      have hfound : u.entry x = some e' := by
        have hgone : (s.table.filter fun a => a.radio != x).find? (fun a => a.radio == x) = none :=
          List.find?_eq_none.mpr fun a ha => by simpa using (List.mem_filter.mp ha).2
        rw [State.entry, ht, List.find?_append, hgone]
        simp [hr]
      rw [hfound]
      exact hp.trans hjoined
    · have hfound : u.entry x = s.entry x := by
        rw [State.entry, ht, List.find?_append, entry_filter_ne _ hxr]
        simp [hr, Ne.symm hxr, State.entry]
      rw [hfound]
      exact hjoined

theorem evolves_cancelJoin (s : State) (i : SlotId) (b : Bool) : Evolves s (s.cancelJoin i b) :=
  evolves_of_calm ((calm_cancelJoin s i b).1.calm (calm_cancelJoin (X := noSlot) (E := noHolder) s i b).2)

theorem evolves_reregister {s : State} {f : UplinkFrame} {e : RegEntry} (c : Chan) (k : RadioKind)
    (he : s.entry f.sender = some e) : Evolves s (s.reregister c f k e) := by
  have hfresh : Evolves s ((s.dropEntry f.sender).appendEntry (entryOf s c f k e.pinned)) :=
    evolves_of_table rfl rfl rfl (radiosSound_replaced rfl rfl he rfl rfl)
  unfold State.reregister
  dsimp only
  refine .trans ?_ (evolves_releaseHolds _ _)
  refine .trans ?_ (evolves_channelFrame _ _ _ _ _)
  split
  · exact hfresh
  · exact .ite (fun _ => hfresh.trans (evolves_cancelJoin _ _ _)) fun _ => hfresh

/-! ### Leaving -/

/-- No radio and no pending join changes its place. -/
structure SamePlaces (s u : State) : Prop where
  table : u.table = s.table
  radios : ∀ i, radiosAt u i = radiosAt s i
  joins : ∀ i, joinAt u i = joinAt s i

theorem SamePlaces.refl (s : State) : SamePlaces s s := ⟨rfl, fun _ => rfl, fun _ => rfl⟩

theorem SamePlaces.trans {a b c : State} (h : SamePlaces a b) (h' : SamePlaces b c) : SamePlaces a c :=
  ⟨h'.table.trans h.table, fun i => (h'.radios i).trans (h.radios i), fun i => (h'.joins i).trans (h.joins i)⟩

theorem samePlaces_refresh (s : State) (i : SlotId) (r : Radio) : SamePlaces s (s.refresh i r) := by
  cases hg : s.group i with
  | none => rw [refresh_free r hg]; exact .refl s
  | some g =>
    cases hr : g.roleOf r with
    | none => rw [refresh_stranger hg hr]; exact .refl s
    | some role =>
      obtain ⟨hloco, hleader, hcrew⟩ := refreshed_radios s.device.warn g r role
      have hjoin := (tame_refreshed s.device.warn g r role).keeps.join
      rw [refresh_eq hg hr]
      refine ⟨rfl, fun j => ?_, fun j => ?_⟩ <;> by_cases hj : i = j
      · subst hj
        simp [radiosAt, hg, Group.radios, hloco, hleader, hcrew]
      · rw [radiosAt, radiosAt, group_setSlot_ne _ _ hj]
      · subst hj
        simpa [joinAt, hg] using hjoin
      · rw [joinAt, joinAt, group_setSlot_ne _ _ hj]

theorem samePlaces_endGrant (s : State) (c : Chan) : SamePlaces s (s.endGrant c) := by
  rcases endGrant_cases s c with ⟨-, he⟩ | ⟨h, -, he⟩ | ⟨h, q₁, x, q₂, j, role, g, -, -, -, -, -, -, -, -, he⟩ <;> rw [he]
  · exact .refl s
  · exact ⟨rfl, fun _ => rfl, fun _ => rfl⟩
  · exact SamePlaces.trans (b := s.setChan c ((s.chan c).passed h.radio x q₂ s.now))
      ⟨rfl, fun _ => rfl, fun _ => rfl⟩ (samePlaces_refresh _ j x)

theorem samePlaces_withdrawFrom (s : State) (r : Radio) : SamePlaces s (s.withdrawFrom r) := by
  rw [withdrawFrom_eq_group]
  exact withdrawGroup_keeps (P := SamePlaces s) (fun u c hu => hu.trans (samePlaces_endGrant u c)) _ _ (.refl s)

theorem perm_radios_without {g : Machine.Group} {r : Radio} (hr : r ∈ g.crew.map (·.radio)) :
    g.radios.Perm (r :: (without g r).radios) := by
  obtain ⟨ms, p, w, m, hshape, hms, -⟩ := without_shape g r
  rw [hshape]
  simp only [Group.radios, hms]
  refine .trans (((List.perm_cons_erase hr).cons _).cons _) ?_
  exact ((List.Perm.swap r g.leader.radio _).cons _).trans (.swap r g.loco.radio _)

/-- R38: a crew member leaves the record with its floors, and returns to the table. -/
theorem evolves_leaves {s : State} {i : SlotId} {g : Machine.Group} {r : Radio} (hg : s.group i = some g)
    (hr : r ∈ g.crew.map (·.radio)) :
    Evolves s (((s.modGroup i fun g => ((g.removeCrew r).closeWindowOf r).uncheck r).withdrawFrom r).returnRadio r .handset
      g.channel) := by
  obtain ⟨v, hv⟩ : ∃ v, v = s.modGroup i fun g => ((g.removeCrew r).closeWindowOf r).uncheck r := ⟨_, rfl⟩
  obtain ⟨hmild, hstill⟩ := calm_leaves (X := noSlot) (E := noHolder) s i r
  rw [← hv] at hmild hstill ⊢
  have hvg : v.group i = some (without g r) := by rw [hv, group_modGroup_self, hg]; rfl
  have hvothers : ∀ j, j ≠ i → v.group j = s.group j := fun j hj => by rw [hv]; exact (Local.modGroup s i _).others j hj
  have hsame := samePlaces_withdrawFrom v r
  have hreturns := returns_returnRadio (v.withdrawFrom r) r .handset g.channel
  obtain ⟨w, hw⟩ : ∃ w, w = v.withdrawFrom r := ⟨_, rfl⟩
  rw [← hw] at hmild hstill hsame hreturns ⊢
  obtain ⟨u, hu⟩ : ∃ u, u = w.returnRadio r .handset g.channel := ⟨_, rfl⟩
  rw [← hu] at hreturns ⊢
  have hug : ∀ j, u.group j = w.group j := group_congr hreturns.slots
  have huc : ∀ c, u.chan c = w.chan c := chan_congr hreturns.chans
  obtain ⟨l, hl, hsub, hpin, hcap⟩ := hreturns.table
  have hwt : w.table = s.table := hsame.table.trans (by rw [hv, modGroup_table])
  have hradiosAt : ∀ j, radiosAt u j = radiosAt v j := fun j => by
    rw [← hsame.radios j, radiosAt, radiosAt, hug]
  have hradios : s.RadiosSound → u.RadiosSound := fun h => by
    refine radiosSound_appended (hl.trans (by rw [hwt])) hpin (hcap (hwt ▸ h.capacity)) ?_ (fun j => ?_) h
    · have hmoved : (slotIds.flatMap (radiosAt s)).Perm ([r] ++ slotIds.flatMap (radiosAt u)) :=
        perm_radios_move (i := i) (fun j hj => by rw [hradiosAt, radiosAt, radiosAt, hvothers j hj]) (by
          rw [hradiosAt, radiosAt, radiosAt, hvg, hg]
          exact perm_radios_without hr)
      have hone := h.onePlace
      rw [knownRadios_eq] at hone ⊢
      rw [hl, hwt, List.map_append, List.append_assoc]
      exact nodup_of_subperm (.append (.refl _) (.trans (.append hsub.subperm (.refl _)) hmoved.symm.subperm)) hone
    · have hjoin : joinAt v j = joinAt s j := by
        by_cases hj : j = i
        · obtain ⟨ms, p, x, m, hshape, -⟩ := without_shape g r
          rw [hj, joinAt, joinAt, hvg, hg, hshape]
          rfl
        · rw [joinAt, joinAt, hvothers j hj]
      rw [← hjoin, ← hsame.joins j, joinAt, joinAt, hug]
  refine evolves_of_base (X := noSlot)
    ⟨hreturns.values.trans hmild.values, fun c => by rw [huc]; exact hmild.chans c,
      fun j hj => by rw [hug]; exact hmild.slots j hj, hradios⟩
    (fun _ h => h.elim) (fun _ hp c p j => ?_) fun _ _ _ _ hf => ?_
  · rw [huc, hug]
    exact hstill.phasesSound hp c p j
  · exact floorsSound_iff.mpr (floorsBut_congr (fun c => by rw [huc]) hug (hmild.floors (floorsSound_iff.mp hf)))

theorem evolves_leaveAct {s : State} {i : SlotId} {g : Machine.Group} {r : Radio} (hg : s.group i = some g)
    (hr : r ∈ g.crew.map (·.radio)) : Evolves s (s.leaveAct r i) := by
  simp only [State.leaveAct, hg]
  refine .ite (fun _ => .refl s) fun _ => ?_
  refine .trans ?_ (evolves_completeMove _ i)
  refine .trans ?_ (evolves_of_calm (calm_mark _ i))
  exact (evolves_leaves hg hr).trans (evolves_of_calm (calm_toLeader _ i _))

end Sys2Proof.TableProofs
end

section
/-!
Channel moves (R150, R156, R157): the start of a move and the end of its window evolve the state.
-/
namespace Sys2Proof.MoveProofs
open Sys2Proof Sys2Proof.Machine Sys2Proof.Machine.Laws Sys2Proof.CommandProofs Sys2Proof.DeviceProofs
  Sys2Proof.PortProofs Sys2Proof.SlotProofs Sys2Proof.RecordProofs Sys2Proof.FrameProofs Sys2Proof.FloorProofs
  Sys2Proof.HaltProofs Sys2Proof.MemberProofs Sys2Proof.ReleaseProofs Sys2Proof.EvolveProofs Sys2Proof.CalmProofs
  Sys2Proof.EntryProofs Sys2Proof.ActProofs Sys2Proof.EvolvesProofs Sys2Proof.AirProofs Sys2Proof.ReturnProofs
  Sys2Proof.TableProofs

/-! ### Groups that no floor concerns -/

/-- R144: the floor of a channel passes no group out of service or on the move. -/
theorem slot_endGrant_idle {s : State} {i : SlotId} {g : Machine.Group} (c : Chan) (hg : s.group i = some g)
    (hidle : ¬ (InService g ∧ g.move = none)) : (s.endGrant c).slot i = s.slot i := by
  rcases endGrant_cases s c with ⟨-, he⟩ | ⟨h, -, he⟩ | ⟨h, q₁, x, q₂, j, role, g', -, -, -, hg', -, -, hstate, hmove, he⟩
  · rw [he]
  · rw [he, slot_setChan]
  · have hj : j ≠ i := by
      rintro rfl
      rw [hg] at hg'
      exact hidle (Option.some.inj hg' ▸ ⟨hstate, hmove⟩)
    rw [he, slot_refresh_ne _ _ hj, slot_setChan]

theorem slot_withdrawGroup_idle {s : State} {i : SlotId} {g : Machine.Group} (cs : List Chan) (rs : List Radio)
    (hg : s.group i = some g) (hidle : ¬ (InService g ∧ g.move = none)) : (s.withdrawGroup cs rs).slot i = s.slot i := by
  refine withdrawGroup_keeps (P := fun u => u.slot i = s.slot i) (fun u c hu => ?_) cs rs rfl
  have hug : u.group i = some g := by rw [State.group, hu]; exact hg
  rw [slot_endGrant_idle c hug hidle, hu]

theorem moving_idle {g : Machine.Group} (h : g.move.isSome = true) : ¬ (InService g ∧ g.move = none) := fun hm => by
  rw [hm.2] at h
  cases h

/-! ### The start of a move -/

/-- R148, R150: a record that has left its place for a phase of the target. -/
def moved (g : Machine.Group) (c : Chan) (p : Phase) (expiry : Instant) : Machine.Group :=
  { disordered { g with move := some (g.moveRecord expiry) } with channel := c, phase := p }

/-- R149: what the checks of a move ask of the record. -/
structure Movable (g : Machine.Group) (c : Chan) : Prop where
  state : g.state = .active ∨ g.state = .degraded ∨ g.state = .halt
  wait : g.wait = none
  move : g.move = none
  finalHalt : g.finalHalt = none
  apart : c ≠ g.channel

theorem movable_of_check {s : State} {g : Machine.Group} {c : Chan} {p : Phase} (h : s.moveCheck g c = .ok p) :
    Movable g c ∧ (s.chan c).usable ∧ (s.chan c).freePhase = some p := by
  unfold State.moveCheck at h
  split at h
  · cases h
  · next hstate =>
    split at h
    · cases h
    · next hwait =>
      split at h
      · cases h
      · next hmove =>
        split at h
        · cases h
        · next hne =>
          split at h
          · cases h
          · next husable =>
            split at h
            · cases h
            · next hp =>
              cases h
              obtain ⟨hm, hf⟩ : g.move = none ∧ g.finalHalt = none := by simpa using hmove
              exact ⟨⟨not_not.mp hstate, by simpa using hwait, hm, hf, hne⟩, not_not.mp husable, hp⟩

theorem moved_shape (g : Machine.Group) (c : Chan) (p : Phase) (e : Instant) : ∃ ns, moved g c p e = { g with
    move := some (g.moveRecord e), order := none, notices := ns, channel := c, phase := p } := by
  obtain ⟨ns, hns⟩ := disordered_shape { g with move := some (g.moveRecord e) }
  exact ⟨ns, by rw [moved, hns]⟩

theorem sound_moved {g : Machine.Group} {c : Chan} (p : Phase) (e : Instant) (hm : Movable g c) (h : g.Sound) :
    (moved g c p e).Sound := by
  obtain ⟨hl, hd, hcrew, hlen, hpos, hptr, hdrop, hn⟩ := h.size
  have hnotices : (moved g c p e).notices.length ≤ 4 :=
    disordered_notices (g := { g with move := some (g.moveRecord e) }) hn
  obtain ⟨ns, hns⟩ := moved_shape g c p e
  rw [hns] at hnotices ⊢
  refine ⟨h.causes, nofun, h.approach, h.stop, h.wait, h.join, ⟨fun m hmm => ?_, fun x hx => ?_⟩,
    hl, hd, hcrew, hlen, hpos, hptr, hdrop, hnotices⟩
  · cases hmm
    exact ⟨hm.state, hm.wait, hm.finalHalt, hm.apart.symm⟩
  · have hx' : g.finalHalt = some x := hx
    rw [hm.finalHalt] at hx'
    cases hx'

theorem holds_moved {g : Machine.Group} {c : Chan} (p : Phase) (e : Instant) (hm : Movable g c) (d : Chan) (q : Phase) :
    (moved g c p e).holds d q ↔ g.holds d q ∨ (c = d ∧ p = q) := by
  obtain ⟨ns, hns⟩ := moved_shape g c p e
  rw [hns]
  simp only [Group.holds, Group.moveRecord, hm.finalHalt, hm.move, Option.some.injEq, exists_eq_left', reduceCtorEq,
    false_and, exists_false, or_false]
  exact or_comm

/-- R55: a slot takes one free phase, the other slots holding what they held. -/
theorem phasesSound_claimed {s u : State} {i : SlotId} {c₀ : Chan} {p₀ : Phase}
    (hothers : ∀ j, j ≠ i → ∀ c p, (∃ g, u.group j = some g ∧ g.holds c p) ↔ ∃ g, s.group j = some g ∧ g.holds c p)
    (hocc : ∀ c p, (u.chan c).occupancy.get p = if c₀ = c ∧ p₀ = p then some i else (s.chan c).occupancy.get p)
    (hfree : (s.chan c₀).occupancy.get p₀ = none)
    (hholds : ∀ c p, (∃ g', u.group i = some g' ∧ g'.holds c p)
      ↔ (∃ g, s.group i = some g ∧ g.holds c p) ∨ c₀ = c ∧ p₀ = p) (h : s.PhasesSound) : u.PhasesSound := by
  intro c p j
  rw [hocc]
  by_cases hcp : c₀ = c ∧ p₀ = p
  · rw [if_pos hcp]
    by_cases hj : j = i
    · rw [hj, hholds]
      simp [hcp]
    · rw [hothers j hj, ← h c p j, ← hcp.1, ← hcp.2, hfree]
      simp [Ne.symm hj]
  · rw [if_neg hcp, h c p j]
    by_cases hj : j = i
    · rw [hj, hholds]
      simp [hcp]
    · exact (hothers j hj c p).symm

theorem local_disposeOld (i : SlotId) (s : State) (c : Chan) (p : Phase) (c' : Chan) (p' : Phase) :
    Local i s (s.disposeOld c p c' p') := by
  have hold : Local i s (if s.isPending c (.phase p) .halt then (s.withdraw c (.phase p) .beat).raise c (.phase p) .halt .oldHalt
      else s.withdraw c (.phase p) .beat) := by
    split
    · exact (Local.withdraw i s _ _ _).trans (.raise i _ _ _ _ _)
    · exact .withdraw i s _ _ _
  unfold State.disposeOld
  dsimp only
  split
  · exact hold
  · exact hold.trans ((Local.withdraw i _ _ _ _).trans (.raise i _ _ _ _ _))

/-- R150: a move up to the withdrawal of the group's floor. -/
def leaving (s : State) (i : SlotId) (g : Machine.Group) (c : Chan) (p : Phase) : State :=
  ((s.takePhase c p i).modGroup i fun x => { x with
    move := some (g.moveRecord (s.now + 1000 * s.device.moveWindow)) }).discardOrder i

/-- R150: a move from the withdrawal of the group's floor on, up to the settlement of its deferred crew. -/
def arriving (s : State) (i : SlotId) (g : Machine.Group) (c : Chan) (p : Phase) : State :=
  ((s.modGroup i fun x => { x with channel := c, phase := p }).disposeOld g.channel g.phase c p).raise g.channel
    (.phase g.phase) .move .plain

/-- R150: a move up to the settlement of its deferred crew. -/
def departed (s : State) (i : SlotId) (g : Machine.Group) (c : Chan) (p : Phase) : State :=
  arriving ((leaving s i g c p).withdrawGroup [g.channel] g.radios) i g c p

theorem startMove_eq (s : State) (i : SlotId) (g : Machine.Group) (c : Chan) (p : Phase) :
    s.startMove i g c p = ((departed s i g c p).settleDeferred i).mark i := rfl

theorem disposeOld_slots (s : State) (c : Chan) (p : Phase) (c' : Chan) (p' : Phase) :
    (s.disposeOld c p c' p').slots = s.slots := by
  unfold State.disposeOld
  dsimp only
  split <;> split <;> rfl

theorem slot_leaving {s : State} {i : SlotId} {g : Machine.Group} (c : Chan) (p : Phase) (hg : s.group i = some g) :
    (leaving s i g c p).slot i = { changed := (s.slot i).changed, body := .held (disordered { g with
      move := some (g.moveRecord (s.now + 1000 * s.device.moveWindow)) }) } := by
  have hg' : (s.takePhase c p i).group i = some g := hg
  rw [leaving, modGroup_eq _ hg', slot_discardOrder (group_of_body (by rw [slot_setSlot_self])), slot_setSlot_self]
  rfl

theorem shift_leaving (s : State) (i : SlotId) (g : Machine.Group) (c : Chan) (p : Phase) : Shift i s (leaving s i g c p) :=
  (Shift.takePhase i s c p i).trans ((Local.modGroup _ i _).trans (local_discardOrder _ i)).toShift

theorem occupancy_leaving (s : State) (i : SlotId) (g : Machine.Group) (c : Chan) (p : Phase) (d : Chan) (q : Phase) :
    ((leaving s i g c p).chan d).occupancy.get q = if c = d ∧ p = q then some i else (s.chan d).occupancy.get q := by
  rw [leaving, ((Local.modGroup (s.takePhase c p i) i _).trans (local_discardOrder _ i)).occupancy, occupancy_takePhase]

theorem local_arriving (s : State) (i : SlotId) (g : Machine.Group) (c : Chan) (p : Phase) :
    Local i s (arriving s i g c p) :=
  ((Local.modGroup s i _).trans (local_disposeOld i _ _ _ _ _)).trans (.raise i _ _ _ _ _)

theorem group_arriving {s : State} {i : SlotId} {x : Machine.Group} (g : Machine.Group) (c : Chan) (p : Phase)
    (hx : s.group i = some x) : (arriving s i g c p).group i = some { x with channel := c, phase := p } := by
  rw [arriving, group_raise, group_congr (disposeOld_slots ..), group_modGroup_self, hx]
  rfl

/-- R144: a record that has begun a move has no floor to lose. -/
theorem leaving_idle (g : Machine.Group) (m : MoveRecord) :
    ¬ (InService (disordered { g with move := some m }) ∧ (disordered { g with move := some m }).move = none) := by
  obtain ⟨ns, hns⟩ := disordered_shape { g with move := some m }
  rw [hns]
  exact moving_idle rfl

theorem group_departed {s : State} {i : SlotId} {g : Machine.Group} (c : Chan) (p : Phase) (hg : s.group i = some g) :
    (departed s i g c p).group i = some (moved g c p (s.now + 1000 * s.device.moveWindow)) := by
  have ha := slot_leaving c p hg
  have hb := slot_withdrawGroup_idle [g.channel] g.radios (group_of_body (by rw [ha])) (leaving_idle g _)
  exact group_arriving g c p (group_of_body (by rw [hb, ha]))

theorem evolves_departed {s : State} {i : SlotId} {g : Machine.Group} {c : Chan} {p : Phase} (hg : s.group i = some g)
    (hm : Movable g c) (hfree : (s.chan c).occupancy.get p = none) : Evolves s (departed s i g c p) := by
  have hag := group_of_body (s := leaving s i g c p) (i := i) (by rw [slot_leaving c p hg])
  have hsa := shift_leaving s i g c p
  have hocca := occupancy_leaving s i g c p
  have hug := group_departed c p hg
  obtain ⟨e, he⟩ : ∃ e, e = s.now + 1000 * s.device.moveWindow := ⟨_, rfl⟩
  rw [← he] at hag hug
  obtain ⟨a, ha⟩ : ∃ a, a = leaving s i g c p := ⟨_, rfl⟩
  rw [← ha] at hag hsa hocca
  obtain ⟨b, hb⟩ : ∃ b, b = a.withdrawGroup [g.channel] g.radios := ⟨_, rfl⟩
  obtain ⟨u, hu⟩ : ∃ u, u = departed s i g c p := ⟨_, rfl⟩
  have hbu : Local i b u := by rw [hu, departed, ← ha, ← hb]; exact local_arriving b i g c p
  rw [← hu] at hug ⊢
  have hbg : b.group i = some (disordered { g with move := some (g.moveRecord e) }) := by
    rw [State.group, hb, slot_withdrawGroup_idle _ _ hag (leaving_idle g _)]
    exact hag
  have hmildab : ∀ E : Chan → Radio → Prop, Mild (· = i) E a b := fun E => hb ▸ mild_withdrawGroup a _ _
  have hstillab : Still a b := hb ▸ still_withdrawGroup a _ _
  obtain ⟨ns, hns⟩ := disordered_shape { g with move := some (g.moveRecord e) }
  have hmovedns : moved g c p e = { g with
    move := some (g.moveRecord e), order := none, notices := ns, channel := c, phase := p } := by rw [moved, hns]
  rw [hns] at hag hbg
  have hmildsa : ∀ E : Chan → Radio → Prop, (∀ r ∈ g.radios, E g.channel r) → Mild (· = i) E s a := fun E hE =>
    hsa.mild hg hag (.refl _) rfl (fun h => absurd rfl h) (.of_exempt hE)
  have hmildbu : Mild (· = i) noHolder b u := by
    rw [hmovedns] at hug
    exact hbu.toShift.mild hbg hug (.refl _) rfl (fun h => absurd rfl h) (.of_idle (moving_idle rfl))
  have hbase : Base (· = i) s u := (hmildsa (fun _ _ => True) fun _ _ => trivial).toBase.trans
    ((hmildab noHolder).toBase.trans hmildbu.toBase)
  refine evolves_of_base hbase (fun j hj => ?_) (fun _ hp => ?_) fun _ _ _ _ hf => ?_
  · rw [hj, hg, hug]
    refine .of_fine ⟨sound_moved p e hm, fun _ => ?_⟩
    rw [hmovedns]
    exact warnOk_congr rfl rfl rfl
  · refine phasesSound_claimed (i := i) (fun j hj d q => ?_) (fun d q => ?_) hfree (fun d q => ?_) hp
    · rw [hbu.others j hj, hstillab.holds, hsa.others j hj]
    · rw [hbu.occupancy, hstillab.occupancy, hocca]
    · rw [hug, hg]
      simpa using holds_moved p e hm d q
  · refine floorsSound_iff.mpr (hmildbu.floors (hb ▸ floorsBut_withdrawGroup [g.channel] g.radios ?_))
    exact (hmildsa _ fun r hr => Or.inr ⟨List.mem_singleton.mpr rfl, hr⟩).floors
      ((floorsSound_iff.mp hf).mono fun _ _ h => h.elim)

theorem evolves_startMove {s : State} {i : SlotId} {g : Machine.Group} {c : Chan} {p : Phase} (hg : s.group i = some g)
    (hm : Movable g c) (hfree : (s.chan c).occupancy.get p = none) : Evolves s (s.startMove i g c p) := by
  rw [startMove_eq]
  exact ((evolves_departed hg hm hfree).trans (evolves_settleDeferred _ i)).trans (evolves_of_calm (calm_mark _ i))

/-! ### The end of a move window -/

/-- R74, R157: what a record keeps that loses crew members during a move. -/
structure Trimmed (g g' : Machine.Group) : Prop where
  state : g'.state = g.state
  channel : g'.channel = g.channel
  phase : g'.phase = g.phase
  loco : g'.loco = g.loco
  leader : g'.leader = g.leader
  causes : g'.causes = g.causes
  finalHalt : g'.finalHalt = g.finalHalt
  place : g'.move.map (fun m => (m.oldChan, m.oldPhase)) = g.move.map fun m => (m.oldChan, m.oldPhase)

theorem Trimmed.refl (g : Machine.Group) : Trimmed g g := ⟨rfl, rfl, rfl, rfl, rfl, rfl, rfl, rfl⟩

theorem Trimmed.trans {a b c : Machine.Group} (h : Trimmed a b) (h' : Trimmed b c) : Trimmed a c :=
  ⟨h'.1.trans h.1, h'.2.trans h.2, h'.3.trans h.3, h'.4.trans h.4, h'.5.trans h.5, h'.6.trans h.6, h'.7.trans h.7,
    h'.8.trans h.8⟩

theorem Trimmed.moving {g g' : Machine.Group} (h : Trimmed g g') (hm : g.move.isSome = true) : g'.move.isSome = true := by
  have := congrArg Option.isSome h.place
  rw [Option.isSome_map, Option.isSome_map] at this
  rw [this]
  exact hm

theorem trimmed_without (g : Machine.Group) (r : Radio) : Trimmed g (without g r) := by
  have hplace := (keeps_without g r).move
  obtain ⟨ms, p, w, m, hshape, -⟩ := without_shape g r
  rw [hshape] at hplace ⊢
  exact ⟨rfl, rfl, rfl, rfl, rfl, rfl, rfl, hplace⟩

/-- R157: a lost crew member of a group on the move. -/
theorem slot_loseCrew_moving {s : State} {i : SlotId} {g : Machine.Group} (r : Radio) (hg : s.group i = some g)
    (hm : g.move.isSome = true) :
    (s.loseCrew i r).slot i
      = { changed := true, body := .held (noticed (without g r) (.memberLost r) .leader) } := by
  have hfirst : (s.modGroup i fun g => ((g.removeCrew r).closeWindowOf r).uncheck r)
      = s.setSlot i { changed := (s.slot i).changed, body := .held (without g r) } := modGroup_eq _ hg
  have hslot : ((s.setSlot i { changed := (s.slot i).changed, body := .held (without g r) }).withdrawFrom r).slot i
      = { changed := (s.slot i).changed, body := .held (without g r) } := by
    rw [withdrawFrom_eq_group, slot_withdrawGroup_idle _ _ (group_setSlot_held ..)
      (moving_idle ((trimmed_without g r).moving hm)), slot_setSlot_self]
  rw [State.loseCrew, hfirst, toLeader_eq _ (group_of_body (by rw [hslot])), mark_setSlot, slot_setSlot_self]

theorem trimmed_foldl {α : Type} (f : α → Radio) (l : List α) {s : State} {i : SlotId} {g : Machine.Group} (hg : s.group i = some g)
    (hm : g.move.isSome = true) :
    ∃ g', (l.foldl (fun s x => s.loseCrew i (f x)) s).group i = some g' ∧ Trimmed g g' := by
  induction l generalizing s g with
  | nil => exact ⟨g, hg, .refl g⟩
  | cons x l ih =>
    have hslot := slot_loseCrew_moving (f x) hg hm
    have htrim : Trimmed g (noticed (without g (f x)) (.memberLost (f x)) .leader) :=
      (trimmed_without g (f x)).trans ⟨rfl, rfl, rfl, rfl, rfl, rfl, rfl, rfl⟩
    obtain ⟨g', hg', ht⟩ := ih (group_of_body (by rw [hslot])) (htrim.moving hm)
    refine ⟨g', ?_, htrim.trans ht⟩
    rw [List.foldl_cons]
    exact hg'

theorem zeroAbsent_eq (g : Machine.Group) (a b : Bool) : g.zeroAbsent a b = { g with
    loco := { g.loco with level := if a then 0 else g.loco.level },
    leader := { g.leader with level := if b then 0 else g.leader.level } } := by
  cases a <;> cases b <;> rfl

theorem sound_zeroAbsent {g : Machine.Group} (a b : Bool) (h : g.Sound) : (g.zeroAbsent a b).Sound := by
  rw [zeroAbsent_eq]
  obtain ⟨h1, h2, h3, h4, h5, h6, h7, hl, hd, hrest⟩ := h
  refine ⟨h1, h2, h3, h4, h5, h6, h7, ?_, ?_, hrest⟩
  · cases a
    · exact hl
    · exact Nat.zero_le 7
  · cases b
    · exact hd
    · exact Nat.zero_le 7

/-- R76: what an addition of causes keeps. -/
theorem caused_shape (g : Machine.Group) (cs : Causes) : ∃ st x o a j ns, caused g cs = { g with
    state := st, causes := x, order := o, approach := a, join := j, notices := ns } := by
  unfold caused
  split
  · exact ⟨_, _, _, _, _, _, rfl⟩
  · split
    · obtain ⟨ns, hns⟩ := halting_shape { g with causes := g.causes.union cs }
      rw [hns]
      exact ⟨_, _, _, _, _, _, rfl⟩
    · exact ⟨_, _, _, _, _, _, rfl⟩

theorem caused_nothing (g : Machine.Group) : caused g {} = g := by
  refine if_pos ?_
  cases g.causes
  simp [Causes.union]

/-- R81: an added cause halts a group that is active, degraded or halted. -/
theorem state_caused {g : Machine.Group} {cs : Causes} (hcs : cs ≠ {}) (hsound : g.CausesSound)
    (hstate : g.state = .active ∨ g.state = .degraded ∨ g.state = .halt) : (caused g cs).state = .halt := by
  unfold caused
  by_cases he : g.state.entersHalt = true
  · have hunion : ¬ g.causes.union cs = g.causes := by
      rw [hsound he, empty_union]
      exact hcs
    obtain ⟨ns, hns⟩ := halting_shape { g with causes := g.causes.union cs }
    rw [if_neg hunion, if_pos he, hns]
    rfl
  · have hhalt : g.state = .halt := by rcases hstate with h | h | h <;> simp_all [GroupState.entersHalt]
    split
    · exact hhalt
    · exact hhalt

/-- R157: the end of a move's window with members absent, up to what the old channel is left with. -/
def absentEnd (s : State) (i : SlotId) (g : Machine.Group) (m : MoveRecord) : State :=
  (((g.crew.filter fun x => !m.checked.contains x.radio).foldl (fun s x => s.loseCrew i x.radio) s).modGroup i fun x =>
    x.zeroAbsent (!m.checked.contains g.loco.radio) (!m.checked.contains g.leader.radio)).addCauses i
      (absentCauses (!m.checked.contains g.loco.radio) (!m.checked.contains g.leader.radio))

/-- R157, R158: what the old channel is left with. -/
def oldChannelEnd (s : State) (i : SlotId) (m : MoveRecord) (noLoco : Bool) : State :=
  ((((if noLoco then s.setFinalHalt i m
    else (s.withdraw m.oldChan (.phase m.oldPhase) .halt).freePhase m.oldChan m.oldPhase).withdraw m.oldChan
      (.phase m.oldPhase) .move).orphanOn m.oldChan i Frame.isMove).modGroup i fun g => { g with move := none }).mark i

theorem endMoveAbsent_eq (s : State) (i : SlotId) (g : Machine.Group) (m : MoveRecord) :
    s.endMoveAbsent i g m = oldChannelEnd (absentEnd s i g m) i m (!m.checked.contains g.loco.radio) := rfl

/-- R157, R158: the record at the end of a move window with members absent. -/
def left (g : Machine.Group) (m : MoveRecord) (noLoco : Bool) : Machine.Group :=
  { g with move := none, finalHalt := if noLoco then some { chan := m.oldChan, phase := m.oldPhase } else g.finalHalt }

theorem local_setFinalHalt (s : State) (i : SlotId) (m : MoveRecord) : Local i s (s.setFinalHalt i m) := by
  have hset := Local.modGroup s i fun g => { g with finalHalt := some { chan := m.oldChan, phase := m.oldPhase } }
  unfold State.setFinalHalt
  dsimp only
  split
  · exact hset.trans (.withdraw i _ _ _ _)
  · split
    · exact hset
    · exact hset.trans (.raise i _ _ _ _ _)

theorem group_setFinalHalt {s : State} {i : SlotId} {g : Machine.Group} (m : MoveRecord) (hg : s.group i = some g) :
    (s.setFinalHalt i m).group i = some { g with finalHalt := some { chan := m.oldChan, phase := m.oldPhase } } := by
  have hset : (s.modGroup i fun g => { g with finalHalt := some { chan := m.oldChan, phase := m.oldPhase } }).group i
      = some { g with finalHalt := some { chan := m.oldChan, phase := m.oldPhase } } := by
    rw [group_modGroup_self, hg]
    rfl
  unfold State.setFinalHalt
  dsimp only
  split
  · exact hset
  · split
    · exact hset
    · exact hset

theorem frees_oldChannelEnd {s : State} {i : SlotId} {g : Machine.Group} (m : MoveRecord) (noLoco : Bool)
    (hg : s.group i = some g) :
    Frees i (fun c p => noLoco = false ∧ place m.oldChan m.oldPhase c p) s (oldChannelEnd s i m noLoco)
      ∧ (oldChannelEnd s i m noLoco).group i = some (left g m noLoco) := by
  have hend : ∀ v : State, Local i v ((((v.withdraw m.oldChan (.phase m.oldPhase) .move).orphanOn m.oldChan i
      Frame.isMove).modGroup i fun g => { g with move := none }).mark i) := fun v =>
    (((Local.withdraw i v _ _ _).trans (.orphanOn i _ _ i _)).trans (.modGroup _ i _)).trans (.mark _ i)
  have hgroup : ∀ (v : State) (x : Machine.Group), v.group i = some x →
      ((((v.withdraw m.oldChan (.phase m.oldPhase) .move).orphanOn m.oldChan i
        Frame.isMove).modGroup i fun g => { g with move := none }).mark i).group i = some { x with move := none } := by
    intro v x hx
    rw [group_mark, group_modGroup_self, group_orphanOn, group_withdraw, hx]
    rfl
  cases noLoco with
  | true =>
    exact ⟨(frees_nothing ((local_setFinalHalt s i m).trans (hend _))).congr fun c p => by simp,
      hgroup _ _ (group_setFinalHalt m hg)⟩
  | false =>
    refine ⟨((Frees.after (.withdraw i s m.oldChan (.phase m.oldPhase) .halt)
      (.freePhase i _ m.oldChan m.oldPhase)).then (hend _)).congr fun c p => by simp, ?_⟩
    exact hgroup _ g (by
      show ((s.withdraw m.oldChan (.phase m.oldPhase) .halt).freePhase m.oldChan m.oldPhase).group i = some g
      rw [group_freePhase, group_withdraw, hg])

/-- R157: the record once absent members are accounted for. -/
structure AbsentEnd (s v : State) (i : SlotId) (g : Machine.Group) (a b : Bool) (x : Machine.Group) : Prop where
  group : v.group i = some x
  base : Base (· = i) s v
  still : Still s v
  floors : OwnPhases s → FloorsBut noHolder s → FloorsBut noHolder v
  sound : g.Sound → x.Sound
  warn : g.Sound → WarnOk s.device.warn g → WarnOk s.device.warn x
  channel : x.channel = g.channel
  finalHalt : x.finalHalt = g.finalHalt
  place : x.move.map (fun m => (m.oldChan, m.oldPhase)) = g.move.map fun m => (m.oldChan, m.oldPhase)

theorem absentEnd_absentEnd {s : State} {i : SlotId} {g : Machine.Group} {m : MoveRecord} (hg : s.group i = some g)
    (hm : g.move = some m) :
    ∃ x, AbsentEnd s (absentEnd s i g m) i g (!m.checked.contains g.loco.radio) (!m.checked.contains g.leader.radio) x := by
  obtain ⟨a, ha⟩ : ∃ a, a = !m.checked.contains g.loco.radio := ⟨_, rfl⟩
  obtain ⟨b, hb⟩ : ∃ b, b = !m.checked.contains g.leader.radio := ⟨_, rfl⟩
  rw [absentEnd, ← ha, ← hb]
  obtain ⟨g₁, hg₁, htrim⟩ := trimmed_foldl (fun x : Member => x.radio)
    (g.crew.filter fun x => !m.checked.contains x.radio) hg (by rw [hm]; rfl)
  have hcalm : Calm noSlot noHolder s ((g.crew.filter fun x => !m.checked.contains x.radio).foldl
      (fun s x => s.loseCrew i x.radio) s) :=
    Calm.foldl (f := fun s (x : Member) => s.loseCrew i x.radio) (fun s x => calm_loseCrew s i x.radio) _ s
  generalize (g.crew.filter fun x => !m.checked.contains x.radio).foldl (fun s x => s.loseCrew i x.radio) s = w
    at hg₁ hcalm ⊢
  have hmoving : g₁.move.isSome = true := htrim.moving (by rw [hm]; rfl)
  have hstep := hcalm.slots i id
  rw [hg, hg₁] at hstep
  have hsound : g.Sound → g₁.Sound := fun h => hstep.sound (fun x hx => Option.some.inj hx ▸ h) g₁ rfl
  have hwarn : g.Sound → WarnOk s.device.warn g → WarnOk s.device.warn g₁ := fun h hw =>
    hstep.warn (fun x hx => Option.some.inj hx ▸ h) (fun x hx => Option.some.inj hx ▸ hw) g₁ rfl
  have hzg : (w.modGroup i fun x => x.zeroAbsent a b).group i = some (g₁.zeroAbsent a b) := by
    rw [group_modGroup_self, hg₁]
    rfl
  have hzeq := zeroAbsent_eq g₁ a b
  have hkeeps : Keeps g₁ (g₁.zeroAbsent a b) := by rw [hzeq]; exact keeps_rfl rfl rfl rfl rfl rfl rfl
  have hlocal : Local i w (w.modGroup i fun x => x.zeroAbsent a b) := .modGroup w i _
  have hzero : Calm (· = i) noHolder w (w.modGroup i fun x => x.zeroAbsent a b) :=
    hlocal.calm hg₁ hzg hkeeps (fun h => absurd rfl h) (.of_idle (moving_idle hmoving))
  have hadded : Calm (· = i) noHolder s ((w.modGroup i fun x => x.zeroAbsent a b).addCauses i (absentCauses a b)) :=
    Calm.trans ⟨hcalm.toBase.mono fun _ h => h.elim, hcalm.still, hcalm.floors⟩
      (hzero.trans (calm_addCauses_exempt (X := (· = i)) rfl _))
  have hcs : (absentCauses a b).stopUnconfirmed = false := rfl
  obtain ⟨st, cs, o, ap, j, ns, hshape⟩ := caused_shape (g₁.zeroAbsent a b) (absentCauses a b)
  have hchannel : (caused (g₁.zeroAbsent a b) (absentCauses a b)).channel = g₁.channel := by rw [hshape, hzeq]
  have hfinal : (caused (g₁.zeroAbsent a b) (absentCauses a b)).finalHalt = g₁.finalHalt := by rw [hshape, hzeq]
  have hmove : (caused (g₁.zeroAbsent a b) (absentCauses a b)).move = g₁.move := by rw [hshape, hzeq]
  refine ⟨caused (g₁.zeroAbsent a b) (absentCauses a b), group_addCauses _ hzg, hadded.toBase, hadded.still,
    hadded.floors, fun h => (fine_caused s.device.warn hcs).sound (sound_zeroAbsent a b (hsound h)), fun h hw => ?_,
    hchannel.trans htrim.channel, hfinal.trans htrim.finalHalt, by rw [hmove]; exact htrim.place⟩
  · by_cases hnone : absentCauses a b = {}
    · obtain ⟨rfl, rfl⟩ : a = false ∧ b = false := by simpa [absentCauses] using hnone
      rw [hnone, caused_nothing]
      exact hwarn h hw
    · have hz := sound_zeroAbsent a b (hsound h)
      have hmz : (g₁.zeroAbsent a b).move.isSome = true := by rw [hzeq]; exact hmoving
      obtain ⟨m', hm'⟩ := Option.isSome_iff_exists.mp hmz
      exact warnOk_halted _ (state_caused hnone hz.causes (hz.move.1 m' hm').1)

/-- R55, R148, R158: what a record holds whose move has ended with members absent. -/
theorem holds_left {g x : Machine.Group} {m : MoveRecord} (noLoco : Bool) (hm : g.move = some m) (h : g.Sound)
    (hchannel : x.channel = g.channel) (hfinal : x.finalHalt = g.finalHalt)
    (hplace : x.move.map (fun m => (m.oldChan, m.oldPhase)) = g.move.map fun m => (m.oldChan, m.oldPhase)) (c : Chan)
    (p : Phase) : (left x m noLoco).holds c p ↔ x.holds c p ∧ ¬ (noLoco = false ∧ place m.oldChan m.oldPhase c p) := by
  obtain ⟨-, -, hnone, hother⟩ := h.move.1 m hm
  rw [hm] at hplace
  obtain ⟨m', hm', hat⟩ := Option.map_eq_some_iff.mp hplace
  obtain ⟨hc', hp'⟩ := Prod.mk.inj hat
  cases noLoco with
  | true => simp [Group.holds, left, hm', hfinal, hnone, hc', hp']
  | false =>
    simp only [Group.holds, left, hm', hfinal, hnone, hc', hp', place, Bool.false_eq_true, if_false, reduceCtorEq, false_and,
      exists_false, or_false, Option.some.injEq, exists_eq_left', true_and]
    constructor
    · exact fun hown => ⟨.inl hown, fun hold => hother (hold.1.trans (hown.1.symm.trans hchannel))⟩
    · rintro ⟨hown | hold, hnot⟩
      · exact hown
      · exact absurd hold hnot

theorem sound_left {g x : Machine.Group} {m : MoveRecord} (noLoco : Bool) (hm : g.move = some m) (h : g.Sound)
    (hchannel : x.channel = g.channel) (hx : x.Sound) : (left x m noLoco).Sound := by
  obtain ⟨-, -, -, hother⟩ := h.move.1 m hm
  refine { hx with
    order := fun ho => ⟨(hx.order ho).1, rfl⟩
    move := ⟨nofun, fun y hy => ?_⟩ }
  cases noLoco with
  | true =>
    cases hy
    exact hchannel ▸ hother
  | false => exact hx.move.2 y hy

theorem evolves_endMoveAbsent {s : State} {i : SlotId} {g : Machine.Group} {m : MoveRecord} (hg : s.group i = some g)
    (hm : g.move = some m) : Evolves s (s.endMoveAbsent i g m) := by
  rw [endMoveAbsent_eq]
  obtain ⟨x, hx⟩ := absentEnd_absentEnd hg hm
  generalize absentEnd s i g m = v at hx ⊢
  generalize (!m.checked.contains g.loco.radio) = a at hx ⊢
  obtain ⟨hfrees, hug⟩ := frees_oldChannelEnd m a hx.group
  generalize oldChannelEnd v i m a = u at hfrees hug ⊢
  have hmoving : x.move.isSome = true := by
    have := congrArg Option.isSome hx.place
    rw [Option.isSome_map, Option.isSome_map, hm] at this
    exact this
  have hend : Mild (· = i) noHolder v u := hfrees.toShift.mild hx.group hug (.refl _) rfl (fun h => absurd rfl h)
    (.of_idle (moving_idle hmoving))
  refine evolves_of_base (hx.base.trans hend.toBase) (fun j hj => ?_) (fun hgroups hp => ?_) fun _ hp _ _ hf =>
    floorsSound_iff.mpr (hend.floors (hx.floors (ownPhases_of_sound hp) (floorsSound_iff.mp hf)))
  · rw [hj, hg, hug]
    exact .of_fine ⟨fun h => sound_left a hm h hx.channel (hx.sound h),
      fun h hw => warnOk_congr rfl rfl rfl (hx.warn h hw)⟩
  · refine phasesSound_freed hx.group hfrees.others hfrees.freed hfrees.kept (fun c p hD => ?_) (fun c p => ?_)
      (hx.still.phasesSound hp)
    · have hplace := hx.place
      rw [hm] at hplace
      obtain ⟨m', hm', hat⟩ := Option.map_eq_some_iff.mp hplace
      obtain ⟨hc', hp'⟩ := Prod.mk.inj hat
      exact .inr (.inl ⟨m', hm', hc'.trans hD.2.1, hp'.trans hD.2.2⟩)
    · rw [hug]
      simp only [Option.some.injEq, exists_eq_left']
      exact holds_left a hm (hgroups i g hg) hx.channel hx.finalHalt hx.place c p

theorem evolves_moveExpiry (s : State) (i : SlotId) : Evolves s (s.moveExpiry i) := by
  unfold State.moveExpiry
  split
  · exact .refl s
  · next g hg =>
    split
    · exact .refl s
    · next m hm =>
      exact .ite (fun _ => .ite (fun _ => evolves_completeMove s i) fun _ => evolves_endMoveAbsent hg hm) fun _ => .refl s

end Sys2Proof.MoveProofs
end

section
/-!
Settings (R161, R185, R194, R195): every write of a channel or device setting, a reload, a store and a reset evolve the state.
-/
namespace Sys2Proof.WriteProofs
open Sys2Proof Sys2Proof.Machine Sys2Proof.Machine.Laws Sys2Proof.CommandProofs Sys2Proof.DeviceProofs
  Sys2Proof.PortProofs Sys2Proof.SlotProofs Sys2Proof.RecordProofs Sys2Proof.FrameProofs Sys2Proof.FloorProofs
  Sys2Proof.HaltProofs Sys2Proof.MemberProofs Sys2Proof.ReleaseProofs Sys2Proof.EvolveProofs Sys2Proof.CalmProofs
  Sys2Proof.EntryProofs Sys2Proof.ActProofs Sys2Proof.EvolvesProofs Sys2Proof.AirProofs Sys2Proof.SurveyProofs
  Sys2Proof.ReturnProofs Sys2Proof.TableProofs

/-! ### Ranges -/

/-- R185: a clamped value is within its range and on its step. -/
theorem clampStep_range {lo hi step : Nat} (v : Nat) (h : lo ≤ hi) (hlo : lo % step = 0) (hhi : hi % step = 0) :
    lo ≤ (clampStep lo hi step v).1 ∧ (clampStep lo hi step v).1 ≤ hi ∧ (clampStep lo hi step v).1 % step = 0 := by
  unfold clampStep
  split
  · exact ⟨le_refl lo, h, hlo⟩
  · split
    · exact ⟨h, le_refl hi, hhi⟩
    · next hv hv' =>
      split
      · have hdiv : lo / step ≤ v / step := Nat.div_le_div_right (by omega)
        have hv₁ := Nat.div_add_mod v step
        have hlo₁ := Nat.div_add_mod lo step
        have hmul := Nat.mul_le_mul_left step hdiv
        refine ⟨by omega, by omega, ?_⟩
        have : v - v % step = step * (v / step) := by omega
        rw [this, Nat.mul_mod_right]
      · next hstep => exact ⟨not_lt.mp hv, not_lt.mp hv', not_not.mp hstep⟩

theorem silenceOf_range (v : Nat) : ∀ m, (silenceOf v).1 = some m → m ≤ 7 := by
  unfold silenceOf
  split
  · exact nofun
  · split
    · rintro m hm
      cases hm
      exact le_refl 7
    · rintro m hm
      cases hm
      omega

/-! ### Channel settings -/

/-- A write of a channel's settings that leaves the survey setting alone. -/
theorem evolves_modConfig (s : State) (c : Chan) (f : ChannelConfig → ChannelConfig) (hsurvey : ∀ g, (f g).survey = g.survey)
    (hrange : ∀ g : ChannelConfig, g.InRange → (f g).InRange) : Evolves s (s.modConfig c f) :=
  evolves_modChan s c _ rfl rfl
    (fun ⟨h1, h2, h3, h4, h5, h6, h7, h8, h9, h10⟩ => ⟨h1, h2, h3, h4, h5, h6, h7, by rw [hsurvey]; exact h8, h9, h10⟩)
    fun hs => ⟨hrange _ (hs.channels c).1, (hs.channels c).2⟩

theorem evolves_writeJamOn (s : State) (c : Chan) (v : Nat) : Evolves s (s.writeJamOn c v).1 :=
  evolves_modConfig s c (fun g => { g with jamOn := min v 63, jamOff := min g.jamOff (min v 63) }) (fun _ => rfl) fun _ ⟨h1, h2, h3, h4, h5, h6, h7, h8, _, _⟩ =>
    ⟨h1, h2, h3, h4, h5, h6, h7, h8, min_le_right v 63, min_le_right _ _⟩

theorem evolves_writeJamOff (s : State) (c : Chan) (v : Nat) : Evolves s (s.writeJamOff c v).1 :=
  evolves_modConfig s c (fun g => { g with jamOff := min v g.jamOn }) (fun _ => rfl) fun _ ⟨h1, h2, h3, h4, h5, h6, h7, h8, h9, _⟩ =>
    ⟨h1, h2, h3, h4, h5, h6, h7, h8, h9, min_le_right _ _⟩

theorem evolves_blank (s : State) (c : Chan) {v : Nat} (hv : 5 ≤ v ∧ v ≤ 200) : Evolves s (s.setBlank c v) := by
  have hrange : ∀ g : ChannelConfig, g.InRange → ({ g with blank := v } : ChannelConfig).InRange :=
    fun g ⟨h1, h2, h3, h4, h5, h6, _, _, h9, h10⟩ => ⟨h1, h2, h3, h4, h5, h6, hv.1, hv.2, h9, h10⟩
  unfold State.setBlank
  refine .ite (fun _ => .refl s) fun _ => ?_
  refine .ite (fun _ => evolves_modConfig s c _ (fun _ => rfl) hrange) fun hon => evolves_startSurvey_of ?_
  rw [State.modConfig, modChan_modChan]
  refine evolves_modChan s c _ rfl rfl (fun hs => ?_) fun hs => ⟨hrange _ (hs.channels c).1, (hs.channels c).2⟩
  have hq := (channel_sound_iff.mp hs).1
  exact sound_started (Or.inl rfl) ⟨hq.1, hq.2, hq.3, hq.4, hq.5, hq.6⟩ hs.liveEpoch fun h => hon (hs.surveyOff.mpr h)

/-- R168: a channel whose survey is stopped. -/
def stopped (ch : Channel) : Channel := { ch with survey := { ch.survey.clearProgress with state := .off, error := false } }

theorem stopSurvey_eq (s : State) (c : Chan) : s.stopSurvey c = s.modChan c stopped := rfl

theorem sound_stopped {ch : Channel} (hq : QueueSound True ch) (hepoch : ch.epoch.isSome = (ch.mode == .live))
    (hoff : ch.mode = .off ∨ ch.config.survey = false) : (stopped ch).Sound :=
  channel_sound_iff.mpr ⟨⟨hq.1, hq.2, hq.3, hq.4, hq.5, hq.6⟩, hepoch, iff_of_true rfl hoff, rfl, Nat.zero_le 7⟩

theorem evolves_setSurvey (s : State) (c : Chan) (on : Bool) : Evolves s (s.setSurvey c on) := by
  have hkept : s.SettingsSound → (({ (s.chan c).config with survey := on } : ChannelConfig)).InRange := fun hs =>
    (hs.channels c).1
  unfold State.setSurvey
  refine .ite (fun _ => .refl s) fun hne => ?_
  cases on with
  | true =>
    refine .ite (fun _ => ?_) fun h => absurd rfl h
    refine .ite (fun hlive => evolves_startSurvey_of ?_) fun hoff => ?_
    · rw [State.modConfig, modChan_modChan]
      refine evolves_modChan s c _ rfl rfl (fun hs => ?_) fun hs => ⟨hkept hs, (hs.channels c).2⟩
      have hq := (channel_sound_iff.mp hs).1
      exact sound_started (Or.inl rfl) ⟨hq.1, hq.2, hq.3, hq.4, hq.5, hq.6⟩ hs.liveEpoch (by simp [hlive])
    · have hmode : (s.chan c).mode = .off := by cases h : (s.chan c).mode <;> simp_all
      refine evolves_modChan s c _ rfl rfl (fun hs => ?_) fun hs => ⟨hkept hs, (hs.channels c).2⟩
      exact { hs with surveyOff := iff_of_true (hs.surveyOff.mpr (.inl hmode)) (.inl hmode) }
  | false =>
    refine .ite (fun h => absurd h (by simp)) fun _ => ?_
    rw [stopSurvey_eq, State.modConfig, modChan_modChan]
    refine evolves_modChan s c _ rfl rfl (fun hs => ?_) fun hs => ⟨hkept hs, (hs.channels c).2⟩
    have hq := (channel_sound_iff.mp hs).1
    exact sound_stopped ⟨hq.1, hq.2, hq.3, hq.4, hq.5, hq.6⟩ hs.liveEpoch (.inr rfl)

theorem evolves_setPeriod (s : State) (c : Chan) {v : Nat} (hv : PeriodInRange v) :
    Evolves s (s.modChan c fun ch => ch.setPeriod v) := by
  have hcase : (s.chan c).setPeriod v = { s.chan c with period := v, pendingPeriod := none }
      ∨ (s.chan c).setPeriod v = { s.chan c with pendingPeriod := if v = (s.chan c).period then none else some v } := by
    unfold Channel.setPeriod
    split
    · exact .inl rfl
    · exact .inr rfl
  rcases hcase with h | h
  · refine evolves_modChan s c _ (by rw [h]) (by rw [h]) (fun hs => ?_) fun hs => ?_
    · rw [h]
      exact ⟨hs.1, hs.2, hs.3, hs.4, hs.5, hs.6, hs.7, hs.8, hs.9, hs.10⟩
    · rw [h]
      exact ⟨(hs.channels c).1, hv, nofun⟩
  · refine evolves_modChan s c _ (by rw [h]) (by rw [h]) (fun hs => ?_) fun hs => ?_
    · rw [h]
      exact ⟨hs.1, hs.2, hs.3, hs.4, hs.5, hs.6, hs.7, hs.8, hs.9, hs.10⟩
    · rw [h]
      refine ⟨(hs.channels c).1, (hs.channels c).2.1, fun p hp => ?_⟩
      dsimp only at hp
      split at hp
      · cases hp
      · cases hp
        exact hv

theorem evolves_turnLive {s : State} {c : Chan} (hoff : (s.chan c).mode = .off) : Evolves s (s.turnLive c) := by
  unfold State.turnLive
  refine .ite (fun hon => evolves_startSurvey_of ?_) fun hon => ?_
  · rw [modChan_modChan]
    refine evolves_modChan s c _ rfl rfl (fun hs => ?_) fun hs => hs.channels c
    have hq := (channel_sound_iff.mp hs).1
    exact sound_started (Or.inr rfl) ⟨hq.1, hq.2, hq.3, hq.4, hq.5, hq.6⟩ rfl (by simp [hon])
  · refine evolves_modChan s c _ rfl rfl (fun hs => ?_) fun hs => hs.channels c
    exact { hs with
      liveEpoch := rfl
      surveyOff := iff_of_true (hs.surveyOff.mpr (.inl hoff)) (.inr (by simpa using hon)) }

theorem evolves_turnOff (s : State) (c : Chan) : Evolves s (s.turnOff c) := by
  unfold State.turnOff
  rw [stopSurvey_eq, modChan_modChan]
  refine evolves_modChan s c _ rfl rfl (fun hs => ?_) fun hs => ⟨(hs.channels c).1, ?_, nofun⟩
  · have hq := (channel_sound_iff.mp hs).1
    exact sound_stopped ⟨List.Pairwise.nil, Nat.zero_le 4, hq.3, hq.4, hq.5, hq.6⟩ rfl (.inl rfl)
  · obtain ⟨-, hperiod, hpending⟩ := hs.channels c
    show PeriodInRange ((s.chan c).pendingPeriod.getD (s.chan c).period)
    cases hp : (s.chan c).pendingPeriod with
    | none => exact hperiod
    | some p => exact hpending p hp

theorem evolves_writeMode (s : State) (c : Chan) (m : ChanMode) : Evolves s (s.writeMode c m) := by
  unfold State.writeMode
  split
  · exact .refl s
  · exact .refl s
  · next h => exact evolves_turnLive h
  · exact .ite (fun _ => .refl s) fun _ => evolves_turnOff s c

theorem evolves_writeChannel (s : State) (c : Chan) (w : ChannelWrite) : Evolves s (s.writeChannel c w).1 := by
  cases w with
  | jamOn v => exact evolves_writeJamOn s c v
  | jamOff v => exact evolves_writeJamOff s c v
  | blank v =>
    obtain ⟨hlo, hhi, -⟩ := clampStep_range (lo := 5) (hi := 200) (step := 1) v (by decide) rfl rfl
    exact evolves_blank s c ⟨hlo, hhi⟩
  | survey on => exact evolves_setSurvey s c on
  | answerWindow v =>
    obtain ⟨hlo, hhi, hstep⟩ := clampStep_range (lo := 60) (hi := 300) (step := 10) v (by decide) rfl rfl
    exact evolves_modConfig s c (fun g => { g with answerWindow := (clampStep 60 300 10 v).1 }) (fun _ => rfl)
      fun g ⟨_, _, _, h4, h5, h6, h7, h8, h9, h10⟩ =>
      ⟨hlo, hhi, hstep, h4, h5, h6, h7, h8, h9, h10⟩
  | talkWindow v =>
    obtain ⟨hlo, hhi, -⟩ := clampStep_range (lo := 2) (hi := 30) (step := 1) v (by decide) rfl rfl
    exact evolves_modConfig s c (fun g => { g with talkWindow := (clampStep 2 30 1 v).1 }) (fun _ => rfl)
      fun g ⟨h1, h2, h3, _, _, h6, h7, h8, h9, h10⟩ =>
      ⟨h1, h2, h3, hlo, hhi, h6, h7, h8, h9, h10⟩
  | floor v =>
    exact evolves_modConfig s c (fun g => { g with floor := min v 7 }) (fun _ => rfl) fun g ⟨h1, h2, h3, h4, h5, _, h7, h8, h9, h10⟩ =>
      ⟨h1, h2, h3, h4, h5, min_le_right v 7, h7, h8, h9, h10⟩
  | defaultArea area => exact evolves_modConfig s c (fun g => { g with defaultArea := area }) (fun _ => rfl) fun _ h => h
  | period v => exact evolves_setPeriod s c (clampStep_range (lo := 400) (hi := 3200) (step := 50) v (by decide) rfl rfl)
  | mode m => exact evolves_writeMode s c m

/-! ### Device settings -/

/-- A change of values that leaves the slots, the channels and the threshold as an operation before it has left them. -/
theorem evolves_revalued {s v u : State} (h : Evolves s v) (hs : u.slots = v.slots)
    (hc : u.chans = v.chans) (hw : u.device.warn = v.device.warn) (hr : v.RadiosSound → u.RadiosSound)
    (hv : s.SettingsSound → v.SettingsSound → u.SettingsSound) : Evolves s u := by
  have hg : ∀ i, u.group i = v.group i := group_congr hs
  have hch : ∀ c, u.chan c = v.chan c := chan_congr hc
  exact {
    channels := fun h' c => by rw [hch]; exact h.channels h' c
    groups := fun h' i g hi => h.groups h' i g (hg i ▸ hi)
    warn := fun hgr h' i g hi => hw ▸ h.warn hgr h' i g (hg i ▸ hi)
    phases := fun hgr h' c p i => by rw [hch, hg]; exact h.phases hgr h' c p i
    radios := fun h' => hr (h.radios h')
    floors := fun h1 h2 h3 h4 h5 => floorsSound_iff.mpr (floorsBut_congr (fun c => by rw [hch]) hg
      (floorsSound_iff.mp (h.floors h1 h2 h3 h4 h5)))
    settings := fun h' => hv h' (h.settings h') }

theorem radiosSound_congr {s u : State} (hs : u.slots = s.slots) (ht : u.table = s.table) (h : s.RadiosSound) :
    u.RadiosSound :=
  radiosSound_of_slots ht (fun i => by rw [radiosAt, radiosAt, group_congr hs i])
    (fun i => by rw [joinAt, joinAt, group_congr hs i]) h

/-- A write of a device setting other than the threshold. -/
theorem evolves_modDevice (s : State) (f : DeviceSettings → DeviceSettings) (hwarn : (f s.device).warn = s.device.warn)
    (hrange : s.device.InRange → (f s.device).InRange) : Evolves s (s.modDevice f) :=
  evolves_revalued (.refl s) rfl rfl hwarn (radiosSound_congr rfl rfl) fun h _ =>
    ⟨hrange h.device, h.channels, h.profile, h.storing⟩

/-! ### The warn threshold -/

theorem slot_judgeWarn_ne (s : State) {i j : SlotId} (hj : j ≠ i) : (s.judgeWarn i).slot j = s.slot j := by
  cases hg : s.group i with
  | none => rw [judgeWarn_free hg]
  | some g => rw [judgeWarn_eq hg, slot_setSlot_ne _ _ (Ne.symm hj)]

theorem judgeWarn_device (s : State) (i : SlotId) : (s.judgeWarn i).device = s.device := by
  cases hg : s.group i with
  | none => rw [judgeWarn_free hg]
  | some g => rw [judgeWarn_eq hg]; rfl

/-- R71, R72: every group that is judged agrees with the threshold in force. -/
theorem warnOk_judgedAll (l : List SlotId) (s : State) (hl : l.Nodup) :
    ∀ i ∈ l, ∀ g, (l.foldl (fun s i => s.judgeWarn i) s).group i = some g → WarnOk s.device.warn g := by
  induction l generalizing s with
  | nil => nofun
  | cons j l ih =>
    obtain ⟨hj, hl'⟩ := List.nodup_cons.mp hl
    intro i hi g hg
    rw [List.foldl_cons] at hg
    rcases List.mem_cons.mp hi with rfl | hi
    · have hkept : ∀ (l : List SlotId) (v : State), i ∉ l → (l.foldl (fun s i => s.judgeWarn i) v).slot i = v.slot i := by
        intro l
        induction l with
        | nil => exact fun _ _ => rfl
        | cons k l ih' =>
          intro v hk
          rw [List.foldl_cons, ih' _ (fun h => hk (List.mem_cons_of_mem _ h)),
            slot_judgeWarn_ne _ (fun h => hk (List.mem_cons.mpr (.inl h)))]
      rw [State.group, hkept l _ hj] at hg
      have hg' : (s.judgeWarn i).group i = some g := hg
      cases h : s.group i with
      | none => rw [judgeWarn_free h, h] at hg'; cases hg'
      | some x =>
        rw [judgeWarn_eq h, group_setSlot_held] at hg'
        cases hg'
        exact warnOk_judged _ x
    · have := ih (s.judgeWarn j) hl' i hi g hg
      rwa [judgeWarn_device] at this

theorem evolves_markCrossed (a b : Nat) (s : State) (i : SlotId) : Evolves s (s.markCrossed a b i) := by
  unfold State.markCrossed
  split
  · exact .refl s
  · exact .ite (fun _ => evolves_of_calm (calm_mark s i)) fun _ => .refl s

theorem markCrossed_device (a b : Nat) (s : State) (i : SlotId) : (s.markCrossed a b i).device = s.device := by
  unfold State.markCrossed
  split
  · rfl
  · split <;> rfl

theorem foldl_device {α : Type} {f : State → α → State} (h : ∀ s a, (f s a).device = s.device) (l : List α) (s : State) :
    (l.foldl f s).device = s.device := by
  induction l generalizing s with
  | nil => rfl
  | cons a l ih => rw [List.foldl_cons, ih, h]

/-- R70: a change of the threshold judges every group under the new one. -/
theorem evolves_setWarn (s : State) {v : Nat} (hv : 1 ≤ v ∧ v ≤ 6) : Evolves s (s.setWarn v) := by
  unfold State.setWarn
  refine .ite (fun _ => .refl s) fun _ => ?_
  obtain ⟨a, ha⟩ : ∃ a, a = s.modDevice fun d => { d with warn := v } := ⟨_, rfl⟩
  obtain ⟨b, hb⟩ : ∃ b, b = slotIds.foldl (State.markCrossed s.device.warn v) a := ⟨_, rfl⟩
  have hab : Evolves a b := hb ▸ .foldl (f := State.markCrossed s.device.warn v) (evolves_markCrossed _ _) _ a
  have hbw : b.device.warn = v := by
    rw [hb, foldl_device (markCrossed_device _ _), ha]
    rfl
  have hbu : Evolves b (slotIds.foldl (fun s i => s.judgeWarn i) b) :=
    .foldl (f := fun s i => s.judgeWarn i) (fun s i => evolves_of_calm (calm_judgeWarn s i)) _ b
  have hdevice : (slotIds.foldl (fun s i => s.judgeWarn i) b).device = b.device :=
    foldl_device judgeWarn_device _ b
  have hwarn : (slotIds.foldl (fun s i => s.judgeWarn i) b).WarnSound := fun i g hg => by
    rw [hdevice]
    exact warnOk_judgedAll slotIds b (List.nodup_finRange _) i (List.mem_finRange i) g hg
  dsimp only
  rw [← ha, ← hb]
  have hslots : a.slots = s.slots := by rw [ha]; rfl
  have hchans : a.chans = s.chans := by rw [ha]; rfl
  have hgroup : ∀ i, a.group i = s.group i := group_congr hslots
  have hchan : ∀ c, a.chan c = s.chan c := chan_congr hchans
  have hau := hab.trans hbu
  have hgroups : s.GroupsSound → a.GroupsSound := fun h i g hi => h i g (hgroup i ▸ hi)
  have hphases : s.PhasesSound → a.PhasesSound := fun h c p i => by rw [hchan, hgroup]; exact h c p i
  have hradios : s.RadiosSound → a.RadiosSound := radiosSound_congr hslots (by rw [ha]; rfl)
  have hchannels : s.ChannelsSound → a.ChannelsSound := fun h c => by rw [hchan]; exact h c
  exact {
    channels := fun h => hau.channels (hchannels h)
    groups := fun h => hau.groups (hgroups h)
    warn := fun _ _ => hwarn
    phases := fun hg h => hau.phases (hgroups hg) (hphases h)
    radios := fun h => hau.radios (hradios h)
    floors := fun h1 h2 h3 h4 h5 => hau.floors (hgroups h1) (hphases h2) (hradios h3) (hchannels h4)
      (floorsSound_iff.mpr (floorsBut_congr (fun c => by rw [hchan]) hgroup (floorsSound_iff.mp h5)))
    settings := fun h => hau.settings (by
      rw [ha]
      obtain ⟨-, -, hrest⟩ := h.device
      exact ⟨⟨hv.1, hv.2, hrest⟩, h.channels, h.profile, h.storing⟩) }

/-- R7: a change of the expiry time drops the entries that are due under it. -/
theorem evolves_setRegExpiry (s : State) {v : Nat} (hv : 10 ≤ v ∧ v ≤ 600) : Evolves s (s.setRegExpiry v) := by
  unfold State.setRegExpiry
  refine .ite (fun _ => .refl s) fun _ => ?_
  refine evolves_revalued (.refl s) rfl rfl rfl (fun h => ?_) fun h _ => ?_
  · refine radiosSound_filtered (s := s) (fun e => !(e.pinned.isNone && (s.modDevice fun d => { d with
      regExpiry := v }).entryDue e)) rfl rfl (fun e _ he => ?_) h
    simp only [Bool.not_eq_false', Bool.and_eq_true, Option.isNone_iff_eq_none] at he
    exact he.1
  · obtain ⟨h1, h2, -, -, hrest⟩ := h.device
    exact ⟨⟨h1, h2, hv.1, hv.2, hrest⟩, h.channels, h.profile, h.storing⟩

theorem evolves_writeDevice (s : State) (w : DeviceWrite) : Evolves s (s.writeDevice w).1 := by
  cases w with
  | warn v =>
    obtain ⟨hlo, hhi, -⟩ := clampStep_range (lo := 1) (hi := 6) (step := 1) v (by decide) rfl rfl
    exact evolves_setWarn s ⟨hlo, hhi⟩
  | regExpiry v =>
    obtain ⟨hlo, hhi, -⟩ := clampStep_range (lo := 10) (hi := 600) (step := 1) v (by decide) rfl rfl
    exact evolves_setRegExpiry s ⟨hlo, hhi⟩
  | joinTimeout v =>
    obtain ⟨hlo, hhi, -⟩ := clampStep_range (lo := 5) (hi := 30) (step := 1) v (by decide) rfl rfl
    exact evolves_modDevice s (fun d => { d with joinTimeout := (clampStep 5 30 1 v).1 }) rfl
      fun ⟨h1, h2, h3, h4, _, _, h⟩ => ⟨h1, h2, h3, h4, hlo, hhi, h⟩
  | ackTimeout v =>
    obtain ⟨hlo, hhi, hstep⟩ := clampStep_range (lo := 500) (hi := 4000) (step := 10) v (by decide) rfl rfl
    exact evolves_modDevice s (fun d => { d with ackTimeout := (clampStep 500 4000 10 v).1 }) rfl
      fun ⟨h1, h2, h3, h4, h5, h6, _, _, _, h⟩ => ⟨h1, h2, h3, h4, h5, h6, hlo, hhi, hstep, h⟩
  | moveWindow v =>
    obtain ⟨hlo, hhi, -⟩ := clampStep_range (lo := 2) (hi := 20) (step := 1) v (by decide) rfl rfl
    exact evolves_modDevice s (fun d => { d with moveWindow := (clampStep 2 20 1 v).1 }) rfl
      fun ⟨h1, h2, h3, h4, h5, h6, h7, h8, h9, _, _, h⟩ => ⟨h1, h2, h3, h4, h5, h6, h7, h8, h9, hlo, hhi, h⟩
  | bandShift v =>
    obtain ⟨hlo, hhi, -⟩ := clampStep_range (lo := 4) (hi := 10) (step := 1) v (by decide) rfl rfl
    exact evolves_modDevice s (fun d => { d with bandShift := (clampStep 4 10 1 v).1 }) rfl
      fun ⟨h1, h2, h3, h4, h5, h6, h7, h8, h9, h10, h11, _, _, h⟩ =>
        ⟨h1, h2, h3, h4, h5, h6, h7, h8, h9, h10, h11, hlo, hhi, h⟩
  | easeTol v =>
    refine evolves_modDevice s (fun d => { d with easeTol := min v 50, haltExcess := max d.haltExcess (min v 50 + 1) }) rfl
      fun ⟨h1, h2, h3, h4, h5, h6, h7, h8, h9, h10, h11, h12, h13, _, _, hmax, h⟩ =>
        ⟨h1, h2, h3, h4, h5, h6, h7, h8, h9, h10, h11, h12, h13, min_le_right v 50, ?_, ?_, h⟩
    · exact Nat.lt_of_lt_of_le (Nat.lt_succ_self _) (le_max_right _ _)
    · exact max_le hmax (by omega)
  | haltExcess v =>
    refine evolves_modDevice s (fun d => { d with haltExcess := (clampStep (d.easeTol + 1) 100 1 v).1 }) rfl
      fun ⟨h1, h2, h3, h4, h5, h6, h7, h8, h9, h10, h11, h12, h13, htol, _, _, h⟩ => ?_
    obtain ⟨hlo, hhi, -⟩ := clampStep_range (lo := s.device.easeTol + 1) (hi := 100) (step := 1) v (by omega)
      (Nat.mod_one _) rfl
    exact ⟨h1, h2, h3, h4, h5, h6, h7, h8, h9, h10, h11, h12, h13, htol, hlo, hhi, h⟩
  | silence v =>
    exact evolves_modDevice s (fun d => { d with silence := (silenceOf v).1 }) rfl
      fun ⟨h1, h2, h3, h4, h5, h6, h7, h8, h9, h10, h11, h12, h13, h14, h15, h16, _, h⟩ =>
        ⟨h1, h2, h3, h4, h5, h6, h7, h8, h9, h10, h11, h12, h13, h14, h15, h16, silenceOf_range v, h⟩
  | startup v =>
    obtain ⟨-, hhi, -⟩ := clampStep_range (lo := 0) (hi := 60) (step := 1) v (by decide) rfl rfl
    exact evolves_modDevice s (fun d => { d with startup := (clampStep 0 60 1 v).1 }) rfl
      fun ⟨h1, h2, h3, h4, h5, h6, h7, h8, h9, h10, h11, h12, h13, h14, h15, h16, h17, _, h⟩ =>
        ⟨h1, h2, h3, h4, h5, h6, h7, h8, h9, h10, h11, h12, h13, h14, h15, h16, h17, hhi, h⟩
  | policy p => exact evolves_modDevice s (fun d => { d with policy := p }) rfl fun h => h

theorem evolves_writeAll {α : Type} {w : α → State → State × Bool} (h : ∀ x s, Evolves s (w x s).1) (l : List α)
    (s : State) : Evolves s (writeAll w l s).1 :=
  writeAll_keeps (P := Evolves s) (fun x u hu => hu.trans (h x u)) l (.refl s)

/-! ### The curve, the profile, the reload -/

theorem loadCurve_range {curve : Vector Nat 32} (first : Nat) (values : List Nat) (h : ∀ i, curve.get i ≤ 400) (i : Fin 32) :
    (loadCurve curve first values).get i ≤ 400 := by
  rw [loadCurve, Vector.get_ofFn]
  split
  · split
    · exact min_le_right _ _
    · exact h i
  · exact h i

theorem evolves_writeCurve (s : State) (first : Nat) (values : List Nat) : Evolves s (s.writeCurve first values) :=
  evolves_modDevice s (fun d => { d with curve := loadCurve d.curve first values }) rfl
    fun ⟨h1, h2, h3, h4, h5, h6, h7, h8, h9, h10, h11, h12, h13, h14, h15, h16, h17, h18, h⟩ =>
      ⟨h1, h2, h3, h4, h5, h6, h7, h8, h9, h10, h11, h12, h13, h14, h15, h16, h17, h18, loadCurve_range first values h⟩

theorem inForce_inRange {s : State} (h : s.SettingsSound) : s.inForce.InRange := by
  refine ⟨fun c => ?_, h.device⟩
  obtain ⟨hconfig, hperiod, hpending⟩ := h.channels c
  have hform : s.inForce.channels.get c
      = { mode := (s.chan c).mode, period := (s.chan c).pendingPeriod.getD (s.chan c).period,
          config := (s.chan c).config } := Vector.get_ofFn ..
  rw [hform]
  refine ⟨hconfig, ?_⟩
  show PeriodInRange ((s.chan c).pendingPeriod.getD (s.chan c).period)
  cases hp : (s.chan c).pendingPeriod with
  | none => exact hperiod
  | some p => exact hpending p hp

theorem evolves_startStore (s : State) : Evolves s s.startStore :=
  evolves_revalued (.refl s) rfl rfl rfl (radiosSound_congr rfl rfl) fun h _ =>
    ⟨h.device, h.channels, h.profile, fun _ hp => Option.some.inj hp ▸ inForce_inRange h⟩

theorem evolves_storeCompletes (s : State) : Evolves s s.storeCompletes := by
  unfold State.storeCompletes
  split
  · exact .refl s
  · next p hp =>
    exact evolves_revalued (.refl s) rfl rfl rfl (radiosSound_congr rfl rfl) fun h _ =>
      ⟨h.device, h.channels, h.storing p hp, nofun⟩

theorem builtin_inRange : builtinProfile.InRange := by
  have hcurve : ∀ i, builtinDevice.curve.get i ≤ 400 := by decide
  have hchannels : ∀ c, builtinProfile.channels.get c = builtinChannel := by decide
  refine ⟨fun c => ?_, by decide, by decide, by decide, by decide, by decide, by decide, by decide, by decide, by decide,
    by decide, by decide, by decide, by decide, by decide, by decide, by decide, by decide, by decide, hcurve⟩
  rw [hchannels]
  unfold ChannelConfig.InRange PeriodInRange
  decide

theorem reloadSource_inRange {s : State} (h : s.SettingsSound) : s.reloadSource.InRange := by
  unfold State.reloadSource
  split
  · next p hp => exact h.storing p hp
  · split
    · exact h.profile
    · exact builtin_inRange

theorem evolves_reload (s : State) {p : Profile} (hp : s.SettingsSound → p.InRange) : Evolves s (s.reload p) := by
  have hchannels : Evolves s (Sys2Proof.channels.foldl (State.reloadChannel p) s) :=
    .foldl (f := State.reloadChannel p) (fun s c => evolves_writeAll (fun w s => evolves_writeChannel s c w) _ s) _ s
  have hdevice := hchannels.trans (evolves_writeAll (w := State.writeDevice) (fun w s => evolves_writeDevice s w)
    p.device.writes _)
  unfold State.reload
  dsimp only
  generalize (writeAll State.writeDevice p.device.writes (Sys2Proof.channels.foldl (State.reloadChannel p) s)).1 = v
    at hdevice ⊢
  refine evolves_revalued hdevice rfl rfl rfl (radiosSound_congr rfl rfl) fun hs hv => ?_
  obtain ⟨h1, h2, h3, h4, h5, h6, h7, h8, h9, h10, h11, h12, h13, h14, h15, h16, h17, h18, -⟩ := hv.device
  obtain ⟨-, -, -, -, -, -, -, -, -, -, -, -, -, -, -, -, -, -, -, hcurve⟩ := hp hs
  exact ⟨⟨h1, h2, h3, h4, h5, h6, h7, h8, h9, h10, h11, h12, h13, h14, h15, h16, h17, h18, hcurve⟩, hv.channels, hv.profile,
    hv.storing⟩

theorem evolves_controlAll (s : State) : Evolves s s.controlAll :=
  .foldl (f := fun s i => s.addCause i .control) (fun s i => evolves_of_calm (calm_addCause s i (by simp))) _ s

theorem evolves_enterFallback (s : State) : Evolves s s.enterFallback := by
  have hmode : Evolves s (inFallback s) := evolves_of_eq rfl rfl rfl rfl
  have hreload : Evolves (inFallback s) ((inFallback s).reload s.reloadSource) :=
    evolves_reload _ fun h => reloadSource_inRange (s := s) ⟨h.device, h.channels, h.profile, h.storing⟩
  rw [enterFallback_eq]
  refine hmode.trans (hreload.trans ?_)
  generalize (inFallback s).reload s.reloadSource = v
  have hattend : Evolves v (if s.defaults = true then v.attend .profileDefaulted else v) :=
    .ite (fun _ => evolves_attend _ _) fun _ => .refl _
  unfold afterReload
  dsimp only
  refine .trans ?_ (evolves_examine _ true)
  refine .trans ?_ (evolves_attend _ _)
  generalize (if s.defaults = true then v.attend .profileDefaulted else v) = w at hattend ⊢
  exact hattend.trans (.ite (fun _ => evolves_controlAll w) fun _ => .refl w)

/-! ### Resets -/

theorem sound_afterReset (p : ChannelProfile) (now : Instant) : (Channel.afterReset p now).Sound := by
  have hqueue : QueueSound True (Channel.afterReset p now) := by
    refine ⟨?_, Nat.zero_le 4, Nat.zero_le 4, List.nodup_nil, nofun, fun _ _ => rfl⟩
    unfold Channel.afterReset
    dsimp only
    split
    · exact List.pairwise_singleton _ _
    · exact List.Pairwise.nil
  have hepoch : (Channel.afterReset p now).epoch.isSome = (p.mode == .live) := by
    cases h : p.mode <;> simp [Channel.afterReset, h]
  have hsurvey : ((Survey.afterReset p).state = .off ↔ p.mode = .off ∨ p.config.survey = false)
      ∧ (Survey.afterReset p).error = ((Survey.afterReset p).state == .error) ∧ (Survey.afterReset p).cycle ≤ 7 := by
    unfold Survey.afterReset
    split
    · next hm hs =>
      split <;> simp [Survey.fresh, hm, hs]
    · next hno =>
      refine ⟨iff_of_true rfl ?_, rfl, Nat.zero_le 7⟩
      cases hm : p.mode with
      | off => exact .inl rfl
      | live => exact .inr (by simpa using fun hs => hno hm hs)
  exact channel_sound_iff.mpr ⟨hqueue, hepoch, hsurvey.1, hsurvey.2.1, hsurvey.2.2⟩

theorem evolves_resetWith (s : State) (k : AttnItem) (a b : Bool) : Evolves s (s.resetWith k a b) := by
  have hgroup : ∀ i, (s.resetWith k a b).group i = none := fun i => by
    simp [State.group, State.slot, State.resetWith, Slot.fresh]
  have hchan := AttentionProofs.chan_resetWith k a b s
  have hloaded : s.SettingsSound → s.loaded.InRange := fun h => by
    unfold State.loaded
    split
    · exact h.profile
    · exact builtin_inRange
  have hno : ∀ i g, (s.resetWith k a b).group i ≠ some g := fun i g h => by rw [hgroup] at h; cases h
  have hradios : radiosAt (s.resetWith k a b) = fun _ => [] := funext fun i => by rw [radiosAt, hgroup]; rfl
  exact {
    channels := fun _ c => by rw [hchan]; exact sound_afterReset _ _
    groups := fun _ i g h => absurd h (hno i g)
    warn := fun _ _ i g h => absurd h (hno i g)
    phases := fun _ _ c p i => by
      rw [hchan, hgroup]
      simp [Channel.afterReset]
    radios := fun _ => by
      refine ⟨?_, Nat.zero_le 96, nofun, fun i r h => ?_⟩
      · have hnone : slotIds.flatMap (fun _ => ([] : List Radio)) = [] := List.flatMap_eq_nil_iff.mpr fun _ _ => rfl
        rw [knownRadios_eq, hradios, hnone]
        exact List.nodup_nil
      · rw [hgroup] at h
        cases h
    floors := fun _ _ _ _ _ c h hh => by
      rw [hchan] at hh
      cases hh
    settings := fun h => by
      obtain ⟨hchannels, hdevice⟩ := hloaded h
      exact ⟨hdevice, fun c => by rw [hchan]; exact ⟨(hchannels c).1, (hchannels c).2, nofun⟩, h.profile, nofun⟩ }

end Sys2Proof.WriteProofs
end

section
/-!
Floors that are granted, cleared and passed (R139, R144, R147), the area lines (R92 to R94) and the uplink frames: each effect
evolves the state.
-/
namespace Sys2Proof.StopProofs
open Sys2Proof Sys2Proof.Machine Sys2Proof.Machine.Laws Sys2Proof.CommandProofs Sys2Proof.DeviceProofs
  Sys2Proof.PortProofs Sys2Proof.SlotProofs Sys2Proof.RecordProofs Sys2Proof.FrameProofs Sys2Proof.FloorProofs
  Sys2Proof.HaltProofs Sys2Proof.MemberProofs Sys2Proof.ReleaseProofs Sys2Proof.EvolveProofs Sys2Proof.CalmProofs
  Sys2Proof.EntryProofs Sys2Proof.ActProofs Sys2Proof.EvolvesProofs Sys2Proof.AirProofs Sys2Proof.SurveyProofs
  Sys2Proof.ReturnProofs Sys2Proof.TableProofs Sys2Proof.MoveProofs Sys2Proof.WriteProofs

/-! ### Operations whose queues are sound only at their end -/

/-- What a calm operation keeps, the channels' queues left out. -/
structure Unqueued (s u : State) : Prop where
  values : valuesOf u = valuesOf s
  core : ∀ c, coreOf (u.chan c) = coreOf (s.chan c)
  slots : ∀ i, SlotStep s.device.warn (s.group i) (u.group i)
  radios : s.RadiosSound → u.RadiosSound
  still : Still s u
  floors : OwnPhases s → FloorsBut noHolder s → FloorsBut noHolder u

theorem Unqueued.of_calm {s u : State} (h : Calm noSlot noHolder s u) : Unqueued s u :=
  ⟨h.values, fun c => (h.chans c).core, fun i => h.slots i id, h.radios, h.still, h.floors⟩

theorem Unqueued.refl (s : State) : Unqueued s s := .of_calm (.refl _ _ s)

theorem Unqueued.trans {a b c : State} (h : Unqueued a b) (h' : Unqueued b c) : Unqueued a c :=
  ⟨h'.values.trans h.values, fun d => (h'.core d).trans (h.core d),
    fun i => (h.slots i).trans (device_of_values h.values ▸ h'.slots i), fun hr => h'.radios (h.radios hr),
    h.still.trans h'.still, fun ho hf => h'.floors (h.still.ownPhases ho) (h.floors ho hf)⟩

theorem Unqueued.foldl {α : Type} {f : State → α → State} (h : ∀ s a, Unqueued s (f s a)) (l : List α) (s : State) :
    Unqueued s (l.foldl f s) := by
  induction l generalizing s with
  | nil => exact .refl s
  | cons a l ih => exact (h s a).trans (ih _)

theorem evolves_of_unqueued {s u : State} (h : Unqueued s u) (hq : s.ChannelsSound → ∀ c, QueueSound True (u.chan c)) :
    Evolves s u where
  channels hc c := channel_sound_iff.mpr ⟨hq hc c, (channel_sound_iff.mp (hc c)).2.congr (h.core c)⟩
  groups hg i := (h.slots i).sound (hg i)
  warn hg hw i := device_of_values h.values ▸ (h.slots i).warn (hg i) (hw i)
  phases _ := h.still.phasesSound
  radios := h.radios
  floors _ hp _ _ hf := floorsSound_iff.mpr (h.floors (ownPhases_of_sound hp) (floorsSound_iff.mp hf))
  settings := settingsSound_of h.values h.core

/-- A write of one channel's queues after which its holder is the old one or an eligible one. -/
theorem unqueued_setChan {s : State} {c : Chan} {v : Channel} (hcore : coreOf v = coreOf (s.chan c))
    (hocc : v.occupancy = (s.chan c).occupancy)
    (ht : ∀ h, v.talk = some h → (∃ h', (s.chan c).talk = some h' ∧ h'.radio = h.radio)
      ∨ s.talkEligible c h.radio = true) : Unqueued s (s.setChan c v) := by
  refine ⟨rfl, fun d => ?_, fun _ => .refl _ _, radiosSound_of_slots rfl (fun _ => .refl _) fun _ => rfl,
    still_setChan s c v hocc, fun _ hf d h hh => ?_⟩
  · rw [chan_setChan]
    split
    · next hd => exact hd ▸ hcore
    · rfl
  · rw [talkEligible_setChan]
    rw [chan_setChan] at hh
    split at hh
    · next hd =>
      subst hd
      rcases ht h hh with ⟨h', hh', hr⟩ | hnew
      · exact hr ▸ hf c h' hh'
      · exact .inl hnew
    · exact hf d h hh

/-! ### A floor that is cleared or passed -/

theorem clearHolder_cases (s : State) (c : Chan) :
    ((s.chan c).talk = none ∧ s.clearHolder c = s)
      ∨ ∃ h, (s.chan c).talk = some h ∧ s.clearHolder c = s.setChan c (FloorProofs.vacated (s.chan c) h.radio) := by
  cases h : (s.chan c).talk with
  | none => exact .inl ⟨rfl, clearHolder_free h⟩
  | some x => exact .inr ⟨x, rfl, clearHolder_eq h⟩

theorem unqueued_clearHolder (s : State) (c : Chan) : Unqueued s (s.clearHolder c) := by
  rcases clearHolder_cases s c with ⟨-, he⟩ | ⟨h, -, he⟩ <;> rw [he]
  · exact .refl s
  · exact unqueued_setChan rfl rfl nofun

theorem queueSound_vacated {ch : Channel} (r : Radio) (h : QueueSound False ch) :
    QueueSound False (FloorProofs.vacated ch r) :=
  ⟨insertBy_sorted (reqsWithdraw_sorted h.requests), h.noticeCapacity, h.queueCapacity, h.queueDistinct, nofun, nofun⟩

/-- R144: a channel whose queue has no radio to take the floor. -/
def emptiedQueue (ch : Channel) (now : Instant) : Channel :=
  { ch with talkQueue := [], lastTxEnd := if ch.inFlight.isNone then some now else ch.lastTxEnd }

/-- R144, steps 3 and 4: the floor passes to no radio or to the first eligible one. -/
theorem passFloor_cases (s : State) (c : Chan) :
    s.passFloor c = s.setChan c (emptiedQueue (s.chan c) s.now)
      ∨ ∃ q₁ x q₂ j role, (s.chan c).talkQueue = q₁ ++ x :: q₂ ∧ s.talkEligible c x = true
          ∧ s.memberPlace x = some (j, role)
          ∧ s.passFloor c = (s.setChan c (granted { s.chan c with talkQueue := q₂ } x s.now)).refresh j x := by
  unfold State.passFloor
  rcases first_or_none (s.talkEligible c) (s.chan c).talkQueue with hnone | ⟨q₁, x, q₂, hq, hbefore, hx⟩
  · refine .inl ?_
    rw [passQueue_none hnone, State.modChan, State.voiceEnds, modChan_setChan]
    congr 1
    unfold emptiedQueue
    cases hf : (s.chan c).inFlight <;> simp
  · obtain ⟨j, role, g, hplace, -⟩ := talkEligible_spec hx
    refine .inr ⟨q₁, x, q₂, j, role, hq, hx, hplace, ?_⟩
    rw [hq, passQueue_first hbefore hx, State.modChan, grantFloor_eq (by simpa using hplace), setChan_setChan,
      chan_setChan_self]
    rfl

theorem unqueued_passFloor (s : State) (c : Chan) : Unqueued s (s.passFloor c) := by
  rcases passFloor_cases s c with he | ⟨q₁, x, q₂, j, role, -, hx, -, he⟩ <;> rw [he]
  · exact unqueued_setChan rfl rfl fun h hh => .inl ⟨h, hh, rfl⟩
  · refine (unqueued_setChan (v := granted { s.chan c with talkQueue := q₂ } x s.now) rfl rfl fun h hh => ?_).trans
      (.of_calm (calm_refresh _ j x))
    cases hh
    exact .inr hx

theorem chan_passFloor_ne (s : State) {c d : Chan} (hd : d ≠ c) : (s.passFloor c).chan d = s.chan d := by
  rcases passFloor_cases s c with he | ⟨q₁, x, q₂, j, role, -, -, -, he⟩ <;> rw [he]
  · exact chan_setChan_ne _ _ (Ne.symm hd)
  · rw [refresh_eq_setSlot, chan_setSlot]
    exact chan_setChan_ne _ _ (Ne.symm hd)

/-- R144: a floor that has passed leaves its queue sound. -/
theorem queueSound_passFloor {s : State} {c : Chan} (h : QueueSound False (s.chan c)) :
    QueueSound True ((s.passFloor c).chan c) := by
  obtain ⟨hreqs, hnotices, hcap, hdistinct, -, -⟩ := h
  rcases passFloor_cases s c with he | ⟨q₁, x, q₂, j, role, hq, -, -, he⟩ <;> rw [he]
  · rw [chan_setChan_self]
    exact ⟨hreqs, hnotices, Nat.zero_le 4, List.nodup_nil, nofun, fun _ _ => rfl⟩
  · rw [refresh_eq_setSlot, chan_setSlot, chan_setChan_self]
    rw [hq] at hcap hdistinct
    have htail : (x :: q₂).Nodup := (List.nodup_append.mp hdistinct).2.1
    simp only [List.length_append, List.length_cons] at hcap
    refine ⟨insertBy_sorted hreqs, hnotices, ?_, (List.nodup_cons.mp htail).2, fun h hh => ?_, fun _ hn => by cases hn⟩
    · simp only [granted]
      omega
    · cases hh
      exact (List.nodup_cons.mp htail).1

theorem evolves_clearFloor (s : State) (c : Chan) : Evolves s (s.clearFloor c) := by
  cases hh : (s.chan c).talk with
  | none => simp only [State.clearFloor, hh]; exact .refl s
  | some h =>
    rw [clearFloor_eq hh]
    exact evolves_of_calm ((mild_setChan (chanStep_freed _ _ _) nofun).calm (still_setChan _ _ _ rfl))

/-! ### A floor that is asked for -/

theorem talkEligible_of_place {s : State} {r : Radio} {i : SlotId} {role : Role} {g : Machine.Group}
    (hplace : s.memberPlace r = some (i, role)) (hg : s.group i = some g) (hs : InService g) (hm : g.move = none) :
    s.talkEligible g.channel r = true := by
  unfold State.talkEligible
  rw [hplace]
  simp only [hg]
  rcases hs with h | h <;> simp [h, hm]

/-- R139: a free floor is granted to a radio that may hold it. -/
theorem evolves_grantFloor {s : State} {c : Chan} {r : Radio} {i : SlotId} {role : Role} (hfree : (s.chan c).talk = none)
    (hplace : s.memberPlace r = some (i, role)) (helig : s.talkEligible c r = true) : Evolves s (s.grantFloor c r) := by
  rw [grantFloor_eq hplace]
  refine .trans (evolves_of_unqueued (unqueued_setChan (v := granted (s.chan c) r s.now) rfl rfl fun h hh => ?_)
    fun hc d => ?_) (evolves_of_calm (calm_refresh _ i r))
  · cases hh
    exact .inr helig
  · rw [chan_setChan]
    split
    · next hd =>
      obtain ⟨hreqs, hnotices, hcap, hempty, hdistinct, -⟩ := hc c
      refine ⟨insertBy_sorted hreqs, hnotices, hcap, hdistinct, fun h _ => ?_, fun _ hn => by cases hn⟩
      show h.radio ∉ (s.chan c).talkQueue
      rw [hempty hfree]
      simp
    · exact (channel_sound_iff.mp (hc d)).1

theorem evolves_talkTake {s : State} {c : Chan} {r : Radio} {i : SlotId} {role : Role}
    (hplace : s.memberPlace r = some (i, role)) (helig : s.talkEligible c r = true) : Evolves s (s.talkTake i c r) := by
  unfold State.talkTake
  split
  · next hfree => exact evolves_grantFloor hfree hplace helig
  · next h hh =>
    have hwrite : ∀ v : Channel, ChanStep (s.chan c) v → v.occupancy = (s.chan c).occupancy →
        (∀ x, v.talk = some x → x.radio = h.radio) → Evolves s (s.setChan c v) := fun v hv hocc ht =>
      evolves_of_calm ((mild_setChan hv fun x hx => .inl ⟨h, hh, (ht x hx).symm⟩).calm (still_setChan _ _ _ hocc))
    split
    · refine hwrite _ ⟨rfl, fun free hq => ⟨hq.1, hq.2, hq.3, hq.4, fun x hx => ?_, fun _ hn => by cases hn⟩⟩ rfl fun x hx => ?_
      · cases hx
        exact hq.holderNotQueued h hh
      · cases hx
        rfl
    · next hne =>
      split
      · exact .refl s
      · next hnot =>
        have hnew : r ∉ (s.chan c).talkQueue := by simpa using hnot
        split
        · next hroom =>
          refine hwrite { s.chan c with talkQueue := (s.chan c).talkQueue ++ [r] }
            ⟨rfl, fun free hq => ⟨hq.1, hq.2, ?_, ?_, fun x hx => ?_, fun _ hn => ?_⟩⟩ rfl fun x hx => ?_
          · rw [List.length_append, List.length_singleton]
            exact hroom
          · exact List.nodup_append'.mpr ⟨hq.queueDistinct, List.nodup_singleton r, by simpa using hnew⟩
          · have hx' : (s.chan c).talk = some x := hx
            rw [hh] at hx'
            cases hx'
            simp [hq.holderNotQueued h hh, hne]
          · have hn' : (s.chan c).talk = none := hn
            rw [hh] at hn'
            cases hn'
          · have hx' : (s.chan c).talk = some x := hx
            rw [hh] at hx'
            cases hx'
            rfl
        · exact evolves_of_calm (calm_toRadio s i r _)

theorem evolves_talkReqAct {s : State} {r : Radio} {i : SlotId} {role : Role} (hplace : s.memberPlace r = some (i, role)) :
    Evolves s (s.talkReqAct r i) := by
  have htell : ∀ n, Evolves s (s.toRadio i r n) := fun n => evolves_of_calm (calm_toRadio s i r n)
  unfold State.talkReqAct
  split
  · exact .refl s
  · next g hg =>
    refine .ite (fun _ => htell _) fun hhalt => .ite (fun _ => htell _) fun hout => .ite (fun _ => htell _) fun hmove => ?_
    have hs : InService g := by
      unfold InService
      cases h : g.state <;> simp_all
    exact evolves_talkTake hplace (talkEligible_of_place hplace hg hs (by simpa using hmove))

/-! ### Area lines -/

theorem tame_area (w : Nat) (g : Machine.Group) (area : Area) : Tame w g { g with area := area } :=
  .plain (keeps_rfl rfl rfl rfl rfl rfl rfl) rfl rfl rfl rfl fun h => ⟨h.1, h.2, h.3, h.4, h.5, h.6, h.7, h.8⟩

theorem evolves_changeArea (s : State) (i : SlotId) (g : Machine.Group) (area : Area) : Evolves s (s.changeArea i g area) := by
  have hset : Evolves s (s.modGroup i fun x => { x with area := area }) :=
    evolves_of_calm (calm_modGroup s i _ fun x _ => tame_area _ x area)
  unfold State.changeArea
  refine .ite (fun _ => .refl s) fun _ => .ite (fun _ => ?_) fun _ => .ite (fun _ => ?_) fun _ => hset
  · exact hset.trans (evolves_of_calm (calm_addCause _ i (by simp)))
  · exact hset.trans (evolves_of_calm (calm_removeCause _ i (by simp)))

/-- R92, step 1: radios leave a channel's talk queue. -/
theorem chanStep_pruned (ch : Channel) (p : Radio → Bool) : ChanStep ch { ch with talkQueue := ch.talkQueue.filter p } := by
  refine ⟨rfl, fun free hq => ⟨hq.1, hq.2, ?_, hq.queueDistinct.filter _, fun h hh hin => ?_, fun hf hn => ?_⟩⟩
  · exact (List.length_filter_le _ _).trans hq.queueCapacity
  · exact hq.holderNotQueued h hh (List.mem_filter.mp hin).1
  · show ch.talkQueue.filter _ = []
    rw [hq.freeFloor hf hn]
    rfl

theorem calm_pruneQueue (area : Area) (s : State) (c : Chan) : Calm noSlot noHolder s (s.pruneQueue area c) :=
  (mild_setChan (chanStep_pruned _ _) fun h hh => .inl ⟨h, hh, rfl⟩).calm (still_setChan _ _ _ rfl)

theorem talk_pruneQueues (area : Area) (l : List Chan) (s : State) (c : Chan) :
    ((l.foldl (State.pruneQueue area) s).chan c).talk = (s.chan c).talk := by
  induction l generalizing s with
  | nil => rfl
  | cons d l ih =>
    rw [List.foldl_cons, ih, State.pruneQueue, chan_modChan]
    split
    · next hd => rw [hd]
    · rfl

theorem chan_clearHolders {s : State} {c : Chan} (l : List Chan) (h : (s.chan c).talk = none ∨ c ∉ l) :
    (l.foldl (fun s c => s.clearHolder c) s).chan c = s.chan c := by
  induction l generalizing s with
  | nil => rfl
  | cons d l ih =>
    have hfirst : (s.clearHolder d).chan c = s.chan c := by
      rcases clearHolder_cases s d with ⟨-, he⟩ | ⟨x, hx, he⟩ <;> rw [he]
      refine chan_setChan_ne _ _ fun hdc => ?_
      rcases h with h | h
      · rw [hdc, h] at hx
        cases hx
      · exact h (hdc ▸ List.mem_cons_self)
    rw [List.foldl_cons, ih (h.imp (fun h => by rw [hfirst]; exact h) fun h hc => h (List.mem_cons_of_mem _ hc)), hfirst]

theorem lax_clearHolders {s : State} {c : Chan} (l : List Chan) (h : QueueSound False (s.chan c)) :
    QueueSound False ((l.foldl (fun s c => s.clearHolder c) s).chan c) := by
  induction l generalizing s with
  | nil => exact h
  | cons d l ih =>
    rw [List.foldl_cons]
    refine ih ?_
    rcases clearHolder_cases s d with ⟨-, he⟩ | ⟨x, hx, he⟩ <;> rw [he]
    · exact h
    · rw [chan_setChan]
      split
      · next hd => exact queueSound_vacated _ (hd ▸ h)
      · exact h

theorem queueSound_lax {free : Prop} {ch : Channel} (h : QueueSound free ch) : QueueSound False ch :=
  ⟨h.1, h.2, h.3, h.4, h.5, nofun⟩

/-- R92, step 4: the passing restores every queue, whether or not the clearing had left it sound. -/
theorem queueSound_passCleared (held : Chan → Bool) (l : List Chan) {s : State} {c : Chan}
    (h : QueueSound False (s.chan c)) (hstrict : ¬ (c ∈ l ∧ held c = true) → QueueSound True (s.chan c)) :
    QueueSound True ((l.foldl (State.passCleared held) s).chan c) := by
  induction l generalizing s with
  | nil => exact hstrict (by simp)
  | cons d l ih =>
    rw [List.foldl_cons]
    unfold State.passCleared
    by_cases hd : held d = true
    · rw [if_pos hd]
      by_cases hcd : c = d
      · subst hcd
        have hsound := queueSound_passFloor h
        exact ih (queueSound_lax hsound) fun _ => hsound
      · have hsame := chan_passFloor_ne s hcd
        refine ih (by rw [hsame]; exact h) fun hno => ?_
        rw [hsame]
        exact hstrict fun ⟨hin, hheld⟩ => hno ⟨(List.mem_cons.mp hin).resolve_left hcd, hheld⟩
    · rw [if_neg hd]
      refine ih h fun hno => hstrict fun ⟨hin, hheld⟩ => hno ⟨(List.mem_cons.mp hin).resolve_left ?_, hheld⟩
      rintro rfl
      exact hd hheld

theorem unqueued_passCleared (held : Chan → Bool) (s : State) (c : Chan) : Unqueued s (s.passCleared held c) := by
  unfold State.passCleared
  split
  · exact unqueued_passFloor s c
  · exact .refl s

/-- R92: an assertion's effect on groups and floors. -/
theorem evolves_areaStop (area : Area) (s : State) : Evolves s (s.areaStop area) := by
  obtain ⟨cs, hcs⟩ : ∃ cs, cs = s.concerned area := ⟨_, rfl⟩
  obtain ⟨v, hv⟩ : ∃ v, v = cs.foldl (State.pruneQueue area) s := ⟨_, rfl⟩
  obtain ⟨w, hw⟩ : ∃ w, w = cs.foldl (fun s c => s.clearHolder c) v := ⟨_, rfl⟩
  obtain ⟨x, hx⟩ : ∃ x, x = (s.mappedSlots area).foldl (fun s i => s.addCause i .area) w := ⟨_, rfl⟩
  obtain ⟨held, hheld⟩ : ∃ held : Chan → Bool, held = fun c => (s.chan c).talk.isSome := ⟨_, rfl⟩
  have hdef : s.areaStop area = cs.foldl (State.passCleared held) x := by
    rw [hx, hw, hv, hcs, hheld, State.areaStop]
  have hpruned : Calm noSlot noHolder s v := hv ▸ .foldl (f := State.pruneQueue area) (calm_pruneQueue area) _ s
  have hcaused : Calm noSlot noHolder w x :=
    hx ▸ .foldl (f := fun s i => s.addCause i .area) (fun s i => calm_addCause s i (by simp)) _ w
  have htalk : ∀ c, (v.chan c).talk = (s.chan c).talk := fun c => hv ▸ talk_pruneQueues area cs s c
  have hcleared : Unqueued v w := hw ▸ Unqueued.foldl (f := fun s c => s.clearHolder c) unqueued_clearHolder _ v
  rw [hdef]
  refine evolves_of_unqueued ((Unqueued.of_calm hpruned).trans (hcleared.trans ((Unqueued.of_calm hcaused).trans (.foldl (f := State.passCleared held)
      (unqueued_passCleared held) _ x)))) fun hc c => ?_
  have hq := (hpruned.chans c).queue True (channel_sound_iff.mp (hc c)).1
  refine queueSound_passCleared held cs ((hcaused.chans c).queue False (hw ▸ lax_clearHolders cs (queueSound_lax hq))) fun hno => ?_
  refine (hcaused.chans c).queue True ?_
  rw [hw, chan_clearHolders cs]
  · exact hq
  · by_cases hin : c ∈ cs
    · refine .inl ?_
      rw [htalk]
      have := fun h => hno ⟨hin, h⟩
      rw [hheld] at this
      simpa using this
    · exact .inr hin

theorem evolves_setLine (s : State) (l : AreaLine) (b : Bool) : Evolves s (s.setLine l b) := by
  cases l <;> exact evolves_of_eq rfl rfl rfl rfl

theorem evolves_lineAsserted (s : State) (l : AreaLine) : Evolves s (s.lineAsserted l) :=
  .ite (fun _ => .refl s) fun _ => (evolves_setLine s l true).trans (evolves_areaStop _ _)

theorem evolves_lineReleased (s : State) (l : AreaLine) : Evolves s (s.lineReleased l) :=
  .ite (fun _ => (evolves_setLine s l false).trans (.foldl (f := fun s i => s.removeCause i .area)
    (fun s i => evolves_of_calm (calm_removeCause s i (by simp))) _ _)) fun _ => .refl s

/-! ### Uplink frames -/

/-- R153: a member joins the checked-in set. -/
theorem tame_checked {w : Nat} {g : Machine.Group} {m : MoveRecord} (hm : g.move = some m) (l : List Radio) :
    Tame w g { g with move := some { m with checked := l } } := by
  refine .plain ⟨rfl, rfl, by rw [hm]; rfl, rfl, .refl _, rfl⟩ rfl rfl rfl rfl fun h => ?_
  obtain ⟨hstate, hwait, hfinal, hother⟩ := h.move.1 m hm
  exact { h with
    order := fun ho => absurd (h.order ho).2 (by simp [hm])
    move := ⟨fun x hx => by cases hx; exact ⟨hstate, hwait, hfinal, hother⟩, h.move.2⟩ }

theorem evolves_checkInAct (s : State) (r : Radio) (i : SlotId) : Evolves s (s.checkInAct r i) := by
  unfold State.checkInAct
  split
  · exact .refl s
  · next g hg =>
    split
    · exact .refl s
    · next m hm =>
      refine .ite (fun _ => .refl s) fun _ => .trans (evolves_of_calm (calm_modGroup s i _ fun x hx => ?_))
        (evolves_completeMove _ i)
      rw [hg] at hx
      cases hx
      exact tame_checked hm _

theorem evolves_admitAct (s : State) (f : UplinkFrame) (i : SlotId) : Evolves s (s.admitAct f i) := by
  unfold State.admitAct
  split
  · exact .refl s
  · next g hg =>
    split
    · next h =>
      cases hj : g.join with
      | none => simp [hj] at h
      | some j => exact evolves_admitJoin hg hj (by simpa [hj] using h)
    · exact evolves_of_calm (calm_toRadio s i _ _)

theorem evolves_disbandAct (s : State) (f : UplinkFrame) (i : SlotId) : Evolves s (s.disbandAct f i) := by
  unfold State.disbandAct
  split
  · exact .refl s
  · exact .ite (fun _ => evolves_startRelease s i) fun _ => .ite (fun _ => evolves_of_calm (calm_toRadio s i _ _)) fun _ =>
      evolves_of_calm (calm_toRadio s i _ _)

theorem evolves_releaseAckAct (s : State) (i : SlotId) : Evolves s (s.releaseAckAct i) := by
  unfold State.releaseAckAct
  split
  · exact .refl s
  · exact .ite (fun _ => evolves_retire s i _) fun _ => .refl s

/-- R22: a radio whose place is in a crew is in that crew's list. -/
theorem mem_crew_of_role {g : Machine.Group} {r : Radio} (h : g.roleOf r = some .crew) : r ∈ g.crew.map (·.radio) := by
  unfold Group.roleOf at h
  split at h
  · cases h
  · split at h
    · cases h
    · split at h
      · next hany => simpa using hany
      · cases h

/-- R17: what an owning block does for a member with a role that may send the kind. -/
theorem evolves_memberAct {s : State} {k : UplinkKind} {f : UplinkFrame} {i : SlotId} {role : Role}
    (hplace : s.memberPlace f.sender = some (i, role)) (hallowed : k.allowed role = true) :
    Evolves s (memberAct k f i s) := by
  cases k with
  | checkIn => exact evolves_checkInAct s f.sender i
  | order => exact evolves_of_calm (calm_orderAct s f i)
  | orderAck => exact evolves_of_calm (calm_orderAckAct s f i)
  | haltAck => exact evolves_of_calm (calm_haltAckAct s i)
  | talkReq => exact evolves_talkReqAct hplace
  | talkEnd => exact evolves_of_calm (calm_talkEndAct s f.sender i)
  | admitFrame => exact evolves_admitAct s f i
  | refuse => exact evolves_of_calm (calm_refuseAct s f i)
  | leave =>
    have hcrew : role = .crew := by simpa [UplinkKind.allowed] using hallowed
    obtain ⟨g, hg, hrole⟩ := memberPlace_spec hplace
    exact evolves_leaveAct hg (mem_crew_of_role (hcrew ▸ hrole))
  | hand => exact evolves_of_calm (calm_handAct s f i)
  | resume => exact evolves_of_calm (calm_resumeAct s f i)
  | disband => exact evolves_disbandAct s f i
  | attachAck => exact evolves_of_calm (calm_attachAckAct s i)
  | releaseAck => exact evolves_releaseAckAct s i
  | answer => exact .refl s
  | status => exact .refl s
  | join => exact .refl s

/-- R18: what an owning block does with a kind that reports motion. -/
theorem evolves_reportAct (s : State) {k : UplinkKind} (f : UplinkFrame) (i : SlotId) (h : k.carriesMotion = true) :
    Evolves s (memberAct k f i s) := by
  cases k with
  | checkIn => exact evolves_checkInAct s f.sender i
  | answer => exact .refl s
  | orderAck => exact evolves_of_calm (calm_orderAckAct s f i)
  | haltAck => exact evolves_of_calm (calm_haltAckAct s i)
  | status => exact .refl s
  | order | talkReq | talkEnd | join | admitFrame | refuse | leave | hand | resume | disband | attachAck | releaseAck => cases h

theorem evolves_takeKind {s : State} {k : UplinkKind} {f : UplinkFrame} {i : SlotId} {role : Role}
    (hplace : s.memberPlace f.sender = some (i, role)) (hallowed : k.allowed role = true) :
    Evolves s (s.takeKind k i role f (memberAct k f i)) := by
  have hloco : Evolves s (s.locoUpdate i f) := evolves_of_calm (calm_locoUpdate s i f)
  unfold State.takeKind
  refine .ite (fun h => ?_) fun _ => .ite (fun hk => ?_) fun _ => evolves_memberAct hplace hallowed
  · exact (hloco.trans (evolves_reportAct _ f i h.2)).trans (evolves_of_calm (calm_approachCheck _ i _ _ _))
  · subst hk
    exact (evolves_of_calm (calm_odometerUpdate s i f)).trans (evolves_of_calm (calm_attachAckAct _ i))

theorem evolves_presence (s : State) (i : SlotId) (r : Radio) : Evolves s (s.presence i r) :=
  evolves_of_calm (calm_presence s i r)

theorem evolves_memberFrame {s : State} {k : UplinkKind} {c : Chan} {f : UplinkFrame} {i : SlotId} {role : Role}
    (hplace : s.memberPlace f.sender = some (i, role)) :
    Evolves s (s.memberFrame k c f i role (memberAct k f i)) := by
  unfold State.memberFrame
  split
  · exact .refl s
  · refine .ite (fun _ => .ite (fun _ => evolves_presence s i _) fun _ => .ite (fun hallowed => ?_) fun _ => ?_) fun _ => ?_
    · exact (evolves_presence s i _).trans (evolves_takeKind (by rw [memberPlace_presence]; exact hplace) hallowed)
    · exact (evolves_presence s i _).trans (evolves_of_calm (calm_toRadio _ i _ _))
    · exact (evolves_channelFrame s c _ _ _).trans (evolves_presence _ i _)

theorem evolves_registeredFrame {s : State} {k : UplinkKind} {c : Chan} {f : UplinkFrame} {e : RegEntry}
    (he : s.entry f.sender = some e) : Evolves s (s.registeredFrame k c f e (entryAct k c f e)) := by
  unfold State.registeredFrame
  refine .ite (fun _ => .refl s) fun _ => .ite (fun h => ?_) fun _ => evolves_channelFrame s c _ _ _
  obtain ⟨rfl, hpin⟩ := h
  exact evolves_of_calm (calm_joinAct c he (by simpa using hpin))

/-- R13 to R17: every uplink frame. -/
theorem evolves_uplink (k : UplinkKind) (c : Chan) (f : UplinkFrame) (s : State) : Evolves s (uplink k c f s) := by
  unfold uplink State.intake
  refine .ite (fun _ => .refl s) fun _ => ?_
  split
  · next e he =>
    refine .ite (fun _ => ?_) fun _ => evolves_registeredFrame he
    split
    · exact evolves_reregister c _ he
    · exact .refl s
  · next he =>
    split
    · next i role hplace => exact evolves_memberFrame hplace
    · next hplace =>
      refine .ite (fun _ => ?_) fun _ => .refl s
      split
      · exact evolves_register c _ he hplace
      · exact .refl s

end Sys2Proof.StopProofs
end

section
/-!
Every command evolves its state: the effects, the bodies, the end of a command; and with them the invariants of the records.
-/
namespace Sys2Proof.KeepProofs
open Sys2Proof Sys2Proof.Machine Sys2Proof.Machine.Laws Sys2Proof.CommandProofs Sys2Proof.DeviceProofs
  Sys2Proof.PortProofs Sys2Proof.EvolvesProofs Sys2Proof.CalmProofs Sys2Proof.EntryProofs Sys2Proof.ActProofs
  Sys2Proof.AirProofs Sys2Proof.SurveyProofs Sys2Proof.ReturnProofs Sys2Proof.TableProofs Sys2Proof.MoveProofs
  Sys2Proof.WriteProofs Sys2Proof.StopProofs

/-! ### Events -/

theorem evolves_attachExpiry (s : State) (i : SlotId) : Evolves s (s.attachExpiry i) :=
  .ite (fun _ => evolves_retire s i _) fun _ => .refl s

theorem evolves_startupExpires (s : State) : Evolves s s.startupExpires :=
  .ite (fun _ => evolves_enterFallback s) fun _ => .refl s

theorem evolves_silenceExpires (s : State) : Evolves s s.silenceExpires :=
  .ite (fun _ => evolves_enterFallback s) fun _ => .refl s

theorem evolves_setReady (s : State) (c : Chan) (b : Bool) : Evolves s (s.setReady c b) :=
  evolves_modChan_kept s c (fun ch => { ch with ready := b }) rfl rfl rfl rfl rfl fun h =>
    ⟨h.1, h.2, h.3, h.4, h.5, h.6, h.7, h.8, h.9, h.10⟩

theorem evolves_event {i : Instr} {t : Instant} {f : State → State} (h : eventEffect i = some (t, f)) (s : State) :
    Evolves s (f s) := by
  cases i <;> simp only [eventEffect, Option.some.injEq, Prod.mk.injEq, reduceCtorEq] at h <;>
    obtain ⟨-, rfl⟩ := h
  case txDone => exact evolves_report s _ _
  case txRefused => exact evolves_report s _ _
  case ready => exact evolves_setReady s _ _
  case notReady => exact evolves_setReady s _ _
  case levelReport => exact evolves_takeLevel s _ _ _
  case phaseInstant => exact evolves_phaseInstant s _ _
  case cycleStart => exact evolves_cycleStart s _ _
  case answerWindowExpiry => exact evolves_windowExpiry s _
  case registrationExpiry => exact evolves_registrationExpiry s _
  case joinTimeout => exact evolves_of_calm (calm_joinExpiry s _)
  case attachTimeout => exact evolves_attachExpiry s _
  case releaseTimeout => exact evolves_of_calm (calm_releaseExpiry s _)
  case orderTimeout => exact evolves_of_calm (calm_orderExpiry s _)
  case talkWindowExpiry => exact evolves_of_calm (calm_talkExpiry s _)
  case moveWindowExpiry => exact evolves_moveExpiry s _
  case startupTimerExpiry => exact evolves_startupExpires s
  case hostSilenceExpiry => exact evolves_silenceExpires s
  case storeCompletion => exact evolves_storeCompletes s
  case samplingMoment => exact evolves_samplingMoment s _
  case sampleDeadline => exact evolves_sampleDeadline s _
  case areaAsserted => exact evolves_lineAsserted s _
  case areaReleased => exact evolves_lineReleased s _
  case powerReset => exact evolves_resetWith s _ _ _
  case lineReset => exact evolves_resetWith s _ _ _
  all_goals exact evolves_uplink _ _ _ s

/-! ### Bodies of the port's commands -/

theorem evolves_clearMark (s : State) (i : SlotId) : Evolves s (s.clearMark i) := by
  refine evolves_of_calm ((EvolveProofs.Local.setSlot s i { (s.slot i) with changed := false }).calm_of_groups ?_)
  unfold State.group
  rw [slot_setSlot_self]

theorem evolves_openBody (a : OpenArgs) (s : State) : Leaves (Evolves s) (s.openBody a) := by
  unfold State.openBody
  split
  · trivial
  · split
    · trivial
    · next hcheck => exact evolves_openGroup (openable_of_check hcheck)

theorem evolves_retireBody (g : GroupField) (s : State) : Leaves (Evolves s) (s.retireBody g) :=
  leaves_onGroup fun i _ _ => (evolves_retire s i _).trans (evolves_raise _ _ _ _ _)

theorem evolves_moveBody (g : GroupField) (target : Nat) (s : State) : Leaves (Evolves s) (s.moveBody g target) := by
  refine leaves_onGroup fun i x hx => ?_
  split
  · trivial
  · split
    · trivial
    · next hcheck =>
      obtain ⟨hm, -, hp⟩ := movable_of_check hcheck
      exact evolves_startMove hx hm (freePhase_free hp)

theorem evolves_body (i : Instr) (s : State) : Leaves (Evolves s) (portBody i s) := by
  cases i with
  | beginOperate t n => exact evolves_of_eq rfl rfl rfl rfl
  | reconnect t n => exact evolves_of_eq rfl rfl rfl rfl
  | resetCommand t n => exact evolves_resetWith s _ _ _
  | poll t n =>
    show Leaves (Evolves s) s.pollBody
    unfold State.pollBody
    split
    · exact .refl s
    · exact evolves_clearMark s _
  | readGroup t n g =>
    show Leaves (Evolves s) (s.readGroupBody g)
    unfold State.readGroupBody
    split
    · trivial
    · split
      · trivial
      · exact .refl s
  | readReg t n selector number =>
    have hat : ∀ k, Leaves (Evolves s) (s.readRegAt k) := fun k => by
      unfold State.readRegAt
      split
      · trivial
      · split
        · trivial
        · exact .refl s
    show Leaves (Evolves s) (s.readRegBody selector number)
    unfold State.readRegBody
    split
    · exact hat _
    · exact hat _
    · trivial
  | surveyRead t n channel =>
    show Leaves (Evolves s) (s.surveyReadBody channel)
    unfold State.surveyReadBody
    split
    · trivial
    · exact .refl s
  | openGroup t n a => exact evolves_openBody a s
  | disband t n g =>
    refine leaves_onGroup fun i x _ => ?_
    split
    · exact evolves_startRelease s i
    · trivial
  | retire t n g => exact evolves_retireBody g s
  | moveGroup t n g target => exact evolves_moveBody g target s
  | setArea t n g area =>
    refine leaves_onGroup fun i x _ => ?_
    split
    · trivial
    · exact evolves_changeArea s i x _
  | haltGroup t n g => exact leaves_onGroup fun i x _ => evolves_of_calm (calm_addCause s i (by simp))
  | allHalt t n => exact evolves_controlAll s
  | releaseHalt t n g =>
    show Leaves (Evolves s) (s.releaseHaltBody g)
    unfold State.releaseHaltBody
    split
    · exact Evolves.foldl (f := fun s i => s.removeCause i .control)
        (fun s i => evolves_of_calm (calm_removeCause s i (by simp))) _ s
    · exact leaves_onGroup fun i x _ => evolves_of_calm (calm_removeCause s i (by simp))
  | floorClear t n channel =>
    show Leaves (Evolves s) (s.floorClearBody channel)
    unfold State.floorClearBody
    split
    · trivial
    · exact evolves_clearFloor s _
  | setChannel t n a =>
    show Leaves (Evolves s) (s.setChannelBody a)
    unfold State.setChannelBody
    split
    · trivial
    · trivial
    · split
      · trivial
      · exact evolves_writeAll (fun w s => evolves_writeChannel s _ w) _ s
  | setDevice t n a =>
    show Leaves (Evolves s) (s.setDeviceBody a)
    unfold State.setDeviceBody
    split
    · trivial
    · exact evolves_writeAll (fun w s => evolves_writeDevice s w) _ s
  | loadCurve t n first count values => exact evolves_writeCurve s first values
  | setPairing t n a =>
    show Leaves (Evolves s) (s.setPairingBody a)
    unfold State.setPairingBody
    split
    · trivial
    · split
      · trivial
      · exact evolves_of_eq rfl rfl rfl rfl
  | store t n => exact evolves_startStore s
  | clearAttention t n mask => exact evolves_of_eq rfl rfl rfl rfl
  | _ => exact Evolves.refl s

/-! ### Commands and steps -/

theorem evolves_finish (s : State) : Evolves s s.finish := by
  refine finish_induction (P := Evolves s) (fun u c _ hu => hu.trans (evolves_sampleEnds u c)) (fun u hu => ?_)
    (fun u c r _ hu => hu.trans (evolves_handOver u c r)) (.refl s)
  exact hu.trans ((evolves_examine u false).trans (evolves_examinePairings _))

theorem evolves_exec {i : Instr} {s u : State} (h : exec i s = .next u) : Evolves s u := by
  have hport : ∀ v w : State, w.slots = v.slots → w.chans = v.chans → w.table = v.table →
      EvolveProofs.valuesOf w = EvolveProofs.valuesOf v → Evolves s v → Evolves s w := fun v w hs hc ht hv hE =>
    hE.trans (evolves_of_eq hs hc ht hv)
  refine CommandProofs.exec_keeps (P := Evolves s) (fun v t => hport _ _ rfl rfl rfl rfl)
    (fun v n => hport _ _ rfl rfl rfl rfl) (fun v hv => ?_) (fun v code st p => hport _ _ rfl rfl rfl rfl)
    (fun v hv => hv.trans (evolves_finish v)) (fun t f hf v hv => hv.trans (evolves_event hf v))
    (fun _ v hv => (evolves_body i v).mono fun w hw => hv.trans hw) h (.refl s)
  unfold State.hostHeard
  split
  · exact hport v _ rfl rfl rfl rfl hv
  · exact hv

/-- Every step evolves the state. -/
theorem evolves_step {s u : State} (h : step s = .next u) : Evolves s u :=
  CommandProofs.step_keeps (P := Evolves s) (fun _ _ hv => hv.trans (evolves_of_eq rfl rfl rfl rfl))
    (fun _ _ _ he hv => hv.trans (evolves_exec he)) h (.refl s)

/-! ### The invariants -/

/-- Settles O3: every command evolves the state, and what evolves keeps its group records sound. -/
theorem groupsStaySound : Obligations.GroupsStaySound := fun _ _ hg h => (evolves_step h).groups hg

/-- Settles O4: a step judges every group whose level or state it changes, and every group when the threshold changes. -/
theorem warnStaysSound : Obligations.WarnStaysSound := fun _ _ hg hw h => (evolves_step h).warn hg hw

/-- Settles O5: a phase is taken and freed with the record that holds it. -/
theorem phasesStaySound : Obligations.PhasesStaySound := fun _ _ hg hp h => (evolves_step h).phases hg hp

/-- Settles O6: a radio moves between the table and a record, never to two places. -/
theorem radiosStaySound : Obligations.RadiosStaySound := fun _ _ hr h => (evolves_step h).radios hr

/-- Settles O7: the operations on queues keep them sorted and bounded, and a floor that is freed empties its queue. -/
theorem channelsStaySound : Obligations.ChannelsStaySound := fun _ _ hc h => (evolves_step h).channels hc

/-- Settles O8: what takes a radio out of service takes its floor. -/
theorem floorsStaySound : Obligations.FloorsStaySound := fun _ _ hg hp hr hc hf h => (evolves_step h).floors hg hp hr hc hf

/-- Settles O9: every write is clamped, and the profile and a store only take what is in force. -/
theorem settingsStayInRange : Obligations.SettingsStayInRange := fun _ _ hs h => (evolves_step h).settings hs

end Sys2Proof.KeepProofs
end

section
/-!
The end of a command (R131): each settlement leaves less to settle, so that forty are enough, and every step leaves a quiet
state; and the state after reset.
-/
namespace Sys2Proof.QuietProofs
open Sys2Proof Sys2Proof.Machine Sys2Proof.Machine.Laws Sys2Proof.CommandProofs Sys2Proof.DeviceProofs
  Sys2Proof.PortProofs Sys2Proof.SlotProofs Sys2Proof.RecordProofs Sys2Proof.FrameProofs Sys2Proof.FloorProofs
  Sys2Proof.HaltProofs Sys2Proof.MemberProofs Sys2Proof.ReleaseProofs Sys2Proof.EvolveProofs Sys2Proof.CalmProofs
  Sys2Proof.EntryProofs Sys2Proof.ActProofs Sys2Proof.EvolvesProofs Sys2Proof.AirProofs Sys2Proof.SurveyProofs
  Sys2Proof.ReturnProofs Sys2Proof.TableProofs Sys2Proof.WriteProofs

/-! ### The examination mark through an entry into HALT -/

theorem endGrant_examine (s : State) (c : Chan) : (s.endGrant c).examine = s.examine := by
  rcases endGrant_cases s c with ⟨-, he⟩ | ⟨h, -, he⟩ | ⟨h, q₁, x, q₂, j, role, g, -, -, -, -, -, -, -, -, he⟩ <;> rw [he]
  · rfl
  · rw [refresh_eq_setSlot]
    rfl

theorem withdrawGroup_examine (s : State) (cs : List Chan) (rs : List Radio) :
    (s.withdrawGroup cs rs).examine = s.examine :=
  withdrawGroup_keeps (P := fun u => u.examine = s.examine) (fun u c hu => (endGrant_examine u c).trans hu) cs rs rfl

theorem dropOrder_examine (s : State) (i : SlotId) : (s.dropOrder i).examine = s.examine := by
  unfold State.dropOrder
  split
  · rfl
  · split
    · rfl
    · simp

theorem discardOrder_examine (s : State) (i : SlotId) : (s.discardOrder i).examine = s.examine := by
  unfold State.discardOrder
  split
  · rfl
  · split
    · rfl
    · rw [toLeader_examine, dropOrder_examine]

theorem dropApproach_examine (s : State) (i : SlotId) : (s.dropApproach i).examine = s.examine := by
  unfold State.dropApproach
  split
  · rfl
  · split
    · rfl
    · simp

theorem unpin_examine (s : State) (r : Radio) : (s.unpin r).examine = s.examine := by
  unfold State.unpin
  split
  · rfl
  · split <;> rfl

theorem noticeToEntry_examine (s : State) (r : Radio) (n : Notice) (k : Nat) : (s.noticeToEntry r n k).examine = s.examine := by
  unfold State.noticeToEntry
  split
  · rfl
  · exact channelNotice_examine ..

theorem cancelJoin_examine (s : State) (i : SlotId) (b : Bool) : (s.cancelJoin i b).examine = s.examine := by
  unfold State.cancelJoin
  split
  · rfl
  · split
    · rfl
    · rw [mark_examine, unpin_examine, noticeToEntry_examine, modGroup_examine]

theorem haltBeat_examine (s : State) (i : SlotId) : (s.haltBeat i).examine = s.examine := by
  unfold State.haltBeat State.oldChannelHalt
  split
  · rfl
  · split
    · simp
    · split <;> simp

theorem enterHalt_examine (s : State) (i : SlotId) : (s.enterHalt i).examine = s.examine := by
  cases hg : s.group i with
  | none => rw [State.enterHalt, hg]
  | some g =>
    rw [enterHalt_eq hg, toLeader_examine, haltBeat_examine, grounded, withdrawGroup_examine, cancelJoin_examine,
      dropApproach_examine, discardOrder_examine, mark_examine, modGroup_examine]

theorem addCause_examine (s : State) (i : SlotId) (c : Cause) : (s.addCause i c).examine = s.examine := by
  unfold State.addCause State.addCauses
  split
  · rfl
  · split
    · rfl
    · dsimp only
      split
      · rw [enterHalt_examine, mark_examine, modGroup_examine]
      · rw [mark_examine, modGroup_examine]

/-! ### The examination -/

/-- R30: an operation that leaves the channels' cores and the examination mark alone. -/
structure Settled (s u : State) : Prop where
  core : SameCore s u
  examine : u.examine = s.examine

theorem Settled.refl (s : State) : Settled s s := ⟨.refl s, rfl⟩

theorem Settled.trans {a b c : State} (h : Settled a b) (h' : Settled b c) : Settled a c :=
  ⟨h.core.trans h'.core, h'.examine.trans h.examine⟩

theorem Settled.foldl {α : Type} {f : State → α → State} (h : ∀ s a, Settled s (f s a)) (l : List α) (s : State) :
    Settled s (l.foldl f s) := by
  induction l generalizing s with
  | nil => exact .refl s
  | cons a l ih => exact (h s a).trans (ih _)

theorem settled_openGroup (s : State) (o : Opening) (i : SlotId) (c : Chan) (p : Phase) : Settled s (s.openGroup o i c p) := by
  have hslot : Settled s (((s.dropEntry o.loco).dropEntry o.leader).setSlot i
      { changed := true, body := .held (o.record c p (o.area.getD (s.chan c).config.defaultArea)) }) :=
    ⟨sameCore_of_chans rfl, rfl⟩
  have hopened : Settled s (opened s o i c p) := hslot.trans
    ⟨sameCore_of_shift ((Shift.takePhase i _ c p i).trans (Local.raise i _ c (.phase p) .attach .plain).toShift), rfl⟩
  rw [openGroup_eq]
  split
  · exact hopened.trans ⟨sameCore_of_calm (calm_addCause _ i (by simp)), addCause_examine _ i _⟩
  · exact hopened

theorem settled_tryPairing (s : State) (k : PairingId) : Settled s (s.tryPairing k) := by
  unfold State.tryPairing
  dsimp only
  split
  · split
    · split
      · exact settled_openGroup s _ _ _ _
      · exact .refl s
    · exact .refl s
  · exact .refl s

theorem settled_examinePairings (s : State) : Settled s s.examinePairings := by
  unfold State.examinePairings
  split
  · exact .foldl (f := State.tryPairing) settled_tryPairing _ s
  · exact .refl s

/-! ### The samples -/

/-- R164: a sample that ends leaves the channel no sample, and every other core alone. -/
theorem core_sampleEnds (s : State) (c : Chan) : ∃ v : Survey, v.sample = .none
    ∧ SameCore (s.setChan c { s.chan c with survey := v }) (s.sampleEnds c) := by
  obtain ⟨ch, hch⟩ : ∃ ch : Channel, ch = { s.chan c with survey := { (s.chan c).survey with sample := .none } } := ⟨_, rfl⟩
  have hended : s.modSurvey c (fun v => { v with sample := .none }) = s.setChan c ch := by rw [modSurvey_eq, hch]
  have hformed : s.setChan c { s.chan c with survey := (formed ch .armed).survey } = s.setChan c (formed ch .armed) := by
    rw [hch]
    rfl
  unfold State.sampleEnds
  dsimp only
  rw [hended]
  split
  · refine ⟨(formed ch .armed).survey, rfl, ?_⟩
    rw [hformed]
    have hcases := concludeSurvey_cases (s.setChan c ch) c .armed
    rw [chan_setChan_self, setChan_setChan] at hcases
    rcases hcases with ⟨-, heq⟩ | ⟨-, -, heq⟩ | ⟨-, -, heq⟩ <;> rw [heq]
    · exact .refl _
    · exact sameCore_of_chans (attend_chans ..)
    · have haside := Aside.foldl (aside_settledOn c) slotIds ((s.setChan c (formed ch .armed)).attend (.jamChange c))
      generalize slotIds.foldl (settledOn c) ((s.setChan c (formed ch .armed)).attend (.jamChange c)) = w at haside
      exact ((sameCore_of_chans (attend_chans ..)).trans haside.core).trans (sameCore_of_chans rfl)
  · exact ⟨{ (s.chan c).survey with sample := .none }, rfl, by rw [hch]; exact .refl _⟩

/-! ### The hand-over -/

theorem sameCore_takeRequest (s : State) (c : Chan) (r : Request) : SameCore s (s.takeRequest c r) := by
  unfold State.takeRequest
  split
  · split
    · exact .refl s
    · exact sameCore_of_chans (modGroup_chans ..)
  · exact sameCore_of_shift (Shift.modChan 0 s c _ (.notices _ fun h => by rw [List.length_tail]; omega) rfl)
  · exact sameCore_of_shift (Shift.modChan 0 s c _ (.notices _ fun h => by rw [List.length_tail]; omega) rfl)
  · exact sameCore_of_shift (Local.withdraw 0 s _ _ _).toShift

theorem sameCore_levelZero (s : State) (i : SlotId) (g : Machine.Group) (r : Radio) (role : Role) :
    SameCore s (s.levelZero i g r role) := by
  cases role with
  | loco => exact sameCore_of_calm (calm_addCause s i (by simp))
  | leader => exact sameCore_of_calm (calm_addCause s i (by simp))
  | crew =>
    unfold State.levelZero
    dsimp only
    split
    · exact .refl s
    · exact ((aside_loseCrew s i r).trans (aside_completeMove _ i)).core

theorem sameCore_countMiss {s : State} {i : SlotId} {g : Machine.Group} (hg : s.group i = some g) (x : Machine.Group)
    (r : Radio) (role : Role) (n : Nat) : SameCore s (s.countMiss i x r role n) := by
  obtain ⟨b, hb⟩ := lowered_eq hg r role n (s.device.warn < n + 1 ∧ n ≤ s.device.warn)
  have hlowered : SameCore s (s.setSlot i
      { changed := b, body := .held (judged s.device.warn (g.setLevel r n role)) }) := sameCore_of_chans rfl
  unfold State.countMiss
  dsimp only
  rw [hb]
  split
  · exact hlowered.trans (sameCore_levelZero _ i x r role)
  · exact hlowered

theorem sameCore_closeMissed (s : State) (i : SlotId) : SameCore s (s.closeMissed i) := by
  unfold State.closeMissed
  split
  · exact .refl s
  · next g hg =>
    split
    · exact .refl s
    · have hclosed : SameCore s (s.modGroup i fun g => { g with window := none }) := sameCore_of_chans (modGroup_chans ..)
      dsimp only
      split
      · exact hclosed
      · split
        · exact hclosed
        · split
          · exact hclosed
          · exact hclosed.trans (sameCore_countMiss (g := { g with window := none })
              (by rw [group_modGroup_self, hg]; rfl) g _ _ _)

theorem sameCore_beforeHandOver (s : State) (c : Chan) (r : Request) : SameCore s (s.beforeHandOver c r) := by
  unfold State.beforeHandOver
  split
  · split
    · exact .refl s
    · exact sameCore_closeMissed s _
  · exact .refl s

/-! ### The measure -/

/-- What a channel may still ask to be settled. -/
def due (ch : Channel) : Nat := (if ch.survey.sample = .none then 0 else 1) + if ch.inFlight.isSome then 0 else 1

/-- What a state may still ask to be settled: each sample and each hand-over may call for an examination. -/
def work (s : State) : Nat := 2 * (Sys2Proof.channels.map fun c => due (s.chan c)).sum + if s.examine then 1 else 0

theorem due_congr {a b : Channel} (h : coreOf a = coreOf b) : due a = due b := by
  obtain ⟨-, -, -, -, -, -, -, -, hsurvey, hair⟩ := core_fields h
  rw [due, due, hsurvey, hair]

theorem due_le (ch : Channel) : due ch ≤ 2 := by
  unfold due
  split <;> split <;> omega

theorem work_le (s : State) : work s ≤ 33 := by
  have hsum : (Sys2Proof.channels.map fun c => due (s.chan c)).sum ≤ (Sys2Proof.channels.map fun _ => 2).sum :=
    List.sum_le_sum fun c _ => due_le _
  have hsixteen : (Sys2Proof.channels.map fun _ => 2).sum = 16 := by decide
  unfold work
  split <;> omega

/-- One channel asks for less, the others for the same. -/
theorem work_lt {s u : State} (c : Chan) (hc : due (u.chan c) < due (s.chan c)) (hd : ∀ d, d ≠ c → due (u.chan d) = due (s.chan d)) :
    work u < work s := by
  have hsum : (Sys2Proof.channels.map fun c => due (u.chan c)).sum < (Sys2Proof.channels.map fun c => due (s.chan c)).sum := by
    refine List.sum_lt_sum _ _ (fun d _ => ?_) ⟨c, List.mem_finRange c, hc⟩
    by_cases h : d = c
    · rw [h]; exact hc.le
    · exact (hd d h).le
  unfold work
  split <;> split <;> omega

theorem work_settleOne {s u : State} (h : s.settleOne = some u) : work u < work s := by
  rcases settleOne_cases h with ⟨c, hlost, rfl⟩ | ⟨hex, rfl⟩ | ⟨c, r, hw, rfl⟩
  · obtain ⟨v, hv, hcore⟩ := core_sampleEnds s c
    refine work_lt c ?_ fun d hd => ?_
    · rw [due_congr (hcore c), chan_setChan_self]
      have hsample : (s.chan c).survey.sample ≠ .none := fun h => by
        simp [Channel.sampleLost, h] at hlost
      simp [due, hv, hsample]
    · rw [due_congr (hcore d), chan_setChan_ne _ _ (Ne.symm hd)]
  · obtain ⟨hcore, hexamine⟩ := settled_examinePairings { s with examine := false }
    have hsame : ∀ c, due (({ s with examine := false }.examinePairings).chan c) = due (s.chan c) := fun c =>
      due_congr (hcore c)
    unfold work
    rw [hexamine, hex]
    simp [hsame]
  · have hmay : (s.chan c).inFlight = none := by
      unfold State.winner at hw
      split at hw
      · next h =>
        simp only [Channel.mayHandOver, Bool.and_eq_true, Option.isNone_iff_eq_none] at h
        exact h.1
      · cases hw
    have hcore := (sameCore_takeRequest s c r).trans (sameCore_beforeHandOver _ c r)
    refine work_lt c ?_ fun d hd => ?_
    · rw [State.handOver, chan_modChan_self]
      obtain ⟨-, -, -, -, -, -, -, -, hsurvey, -⟩ := core_fields (hcore c)
      simp [due, hsurvey, hmay]
    · rw [State.handOver, chan_modChan_ne _ _ (Ne.symm hd), due_congr (hcore d)]

theorem quiet_settle (n : Nat) {s : State} (h : work s ≤ n) : (State.settle n s).Quiet := by
  induction n generalizing s with
  | zero =>
    refine settleOne_none_iff.mp ?_
    cases hs : s.settleOne with
    | none => rw [State.settle, hs]
    | some u =>
      have := work_settleOne hs
      omega
  | succ n ih =>
    unfold State.settle
    split
    · next hs => exact settleOne_none_iff.mp hs
    · next u hs =>
      have := work_settleOne hs
      exact ih (by omega)

theorem quiet_finish (s : State) : s.finish.Quiet := quiet_settle 40 ((work_le s).trans (by decide))

/-! ### Steps -/

theorem winner_congr {s u : State} (hg : ∀ i, u.group i = s.group i) (hc : u.chans = s.chans) (c : Chan) :
    u.winner c = s.winner c := by
  have hchan := chan_congr hc c
  have hnotice : u.noticeRequests c = s.noticeRequests c := by
    simp only [State.noticeRequests, State.noticeAt, hchan, hg]
  simp only [State.winner, State.pendingSet, hchan, hnotice]

theorem quiet_congr {s u : State} (hg : ∀ i, u.group i = s.group i) (hc : u.chans = s.chans) (he : u.examine = s.examine)
    (h : s.Quiet) : u.Quiet := by
  obtain ⟨hsample, hexamine, hhand⟩ := h
  refine ⟨?_, he.trans hexamine, ?_⟩
  · simpa [State.lostSample, chan_congr hc] using hsample
  · simpa [State.nextHandOver, winner_congr hg hc] using hhand

/-- What a body that only reads leaves behind; what a body changes is settled after it. -/
def LeavesRead (P : State → Prop) : Verdict → Prop
  | .read u _ => P u
  | _ => True

theorem LeavesRead.onGroup {P : State → Prop} {s : State} {g : GroupField} {fields : List (Option Reason)}
    {act : SlotId → Machine.Group → Verdict} (h : ∀ i x, LeavesRead P (act i x)) : LeavesRead P (s.onGroup g fields act) := by
  unfold State.onGroup
  split
  · trivial
  · split
    · trivial
    · split
      · trivial
      · exact h _ _

theorem group_clearMark (s : State) (i j : SlotId) : (s.clearMark i).group j = s.group j := by
  by_cases h : j = i
  · subst h
    unfold State.group State.clearMark
    rw [slot_setSlot_self]
  · exact group_setSlot_ne _ _ (Ne.symm h)

theorem reads_quiet (i : Instr) {s : State} (h : s.Quiet) : LeavesRead State.Quiet (portBody i s) := by
  cases i with
  | poll t n =>
    show LeavesRead _ s.pollBody
    unfold State.pollBody
    split
    · exact h
    · exact quiet_congr (group_clearMark s _) rfl rfl h
  | readGroup t n g =>
    show LeavesRead _ (s.readGroupBody g)
    unfold State.readGroupBody
    split
    · trivial
    · split
      · trivial
      · exact h
  | readReg t n selector number =>
    have hat : ∀ k, LeavesRead State.Quiet (s.readRegAt k) := fun k => by
      unfold State.readRegAt
      split
      · trivial
      · split
        · trivial
        · exact h
    show LeavesRead _ (s.readRegBody selector number)
    unfold State.readRegBody
    split
    · exact hat _
    · exact hat _
    · trivial
  | surveyRead t n channel =>
    show LeavesRead _ (s.surveyReadBody channel)
    unfold State.surveyReadBody
    split
    · trivial
    · exact h
  | openGroup t n a =>
    show LeavesRead _ (s.openBody a)
    unfold State.openBody
    split
    · trivial
    · split <;> trivial
  | disband t n g => exact .onGroup fun i x => by split <;> trivial
  | retire t n g => exact .onGroup fun i x => trivial
  | moveGroup t n g target =>
    refine .onGroup fun i x => ?_
    split
    · trivial
    · split <;> trivial
  | setArea t n g area => exact .onGroup fun i x => by split <;> trivial
  | haltGroup t n g => exact .onGroup fun i x => trivial
  | releaseHalt t n g =>
    show LeavesRead _ (s.releaseHaltBody g)
    unfold State.releaseHaltBody
    split
    · trivial
    · exact .onGroup fun i x => trivial
  | floorClear t n channel =>
    show LeavesRead _ (s.floorClearBody channel)
    unfold State.floorClearBody
    split <;> trivial
  | setChannel t n a =>
    show LeavesRead _ (s.setChannelBody a)
    unfold State.setChannelBody
    split
    · trivial
    · trivial
    · split <;> trivial
  | setDevice t n a =>
    show LeavesRead _ (s.setDeviceBody a)
    unfold State.setDeviceBody
    split <;> trivial
  | setPairing t n a =>
    show LeavesRead _ (s.setPairingBody a)
    unfold State.setPairingBody
    split
    · trivial
    · split <;> trivial
  | beginOperate | reconnect | resetCommand | allHalt | loadCurve | store | clearAttention => trivial
  | _ => exact h

theorem quiet_apply {v : Verdict} {s : State} (code : Nat) (hs : s.Quiet) (hv : LeavesRead State.Quiet v) :
    (v.apply code s).Quiet := by
  cases v with
  | refused r p => exact hs
  | read u p => exact hv
  | taken u clamped p => exact quiet_finish u

theorem quiet_begun {s : State} (h : s.Quiet) (t : Instant) (n : Nat) : (s.begun t n).Quiet :=
  quiet_congr (fun i => group_begun t n s i) (begun_chans t n s) (begun_examine t n s) h

theorem quiet_exec {i : Instr} {s u : State} (h : exec i s = .next u) (hs : s.Quiet) : u.Quiet := by
  cases exec_answered h with
  | event hf => exact quiet_finish _
  | turnedAway hk hj => exact quiet_begun hs _ _
  | body hk hj => exact quiet_apply _ (quiet_begun hs _ _) (reads_quiet i (quiet_begun hs _ _))
  | filler hi => exact quiet_congr (fun _ => rfl) rfl rfl hs
  | malformed hi => exact quiet_begun hs _ _

/-- Settles O11: each settlement leaves less to settle, and forty are more than there can be; what is not settled after a
command changes nothing that an arbiter reads. -/
theorem arbitersStayQuiet : Obligations.ArbitersStayQuiet :=
  ⟨quiet_finish, fun _ _ hs h => step_keeps (P := State.Quiet) (fun _ _ => quiet_congr (fun _ => rfl) rfl rfl)
    (fun _ _ _ => quiet_exec) h hs⟩

/-! ### A line's readiness -/

theorem ready_finish (s : State) (c : Chan) : (s.finish.chan c).ready = (s.chan c).ready := by
  have hsame : ∀ {u v : State}, SameCore u v → (v.chan c).ready = (u.chan c).ready := fun h => by
    obtain ⟨-, hready, -⟩ := core_fields (h c)
    exact hready
  refine finish_induction (P := fun u => (u.chan c).ready = (s.chan c).ready) (fun u d _ hu => ?_) (fun u hu => ?_)
    (fun u d r _ hu => ?_) rfl
  · obtain ⟨v, -, hcore⟩ := core_sampleEnds u d
    rw [hsame hcore, chan_setChan]
    split
    · next hd => subst hd; exact hu
    · exact hu
  · exact (hsame (settled_examinePairings { u with examine := false }).core).trans hu
  · refine Eq.trans ?_ ((hsame ((sameCore_takeRequest u d r).trans (sameCore_beforeHandOver _ d r))).trans hu)
    rw [State.handOver, chan_modChan]
    split
    · next hd => rw [hd]
    · rfl

/-- R131, R132: a quiet channel that could hand over has nothing eligible. -/
theorem quiet_ineligible {s : State} {c : Chan} (h : s.Quiet) (hmay : (s.chan c).mayHandOver = true) :
    ∀ r ∈ s.pendingSet c, (s.chan c).eligible r = false := by
  obtain ⟨-, -, hnone⟩ := h
  have hwinner : s.winner c = none := by
    cases hw : s.winner c with
    | none => rfl
    | some r =>
      refine absurd hnone ?_
      simp only [State.nextHandOver, List.findSome?_eq_none_iff, not_forall]
      exact ⟨c, List.mem_finRange c, by simp [hw]⟩
  simpa [List.filter_eq_nil_iff] using (ArbiterProofs.leads_winner hmay).eq_none_iff.mp hwinner

/-- Settles O42: the end of a command keeps the readiness, and a quiet READY line that carries nothing has nothing to
hand over. -/
theorem lineReadiness : Obligations.LineReadiness := by
  intro t c s hs
  refine ⟨⟨_, rfl, ?_, fun hair => quiet_ineligible (quiet_finish _) ?_⟩, rfl⟩
  · rw [ready_finish]
    exact congrArg Channel.ready (chan_modChan_self ..)
  · simp only [Channel.mayHandOver, hair, Option.isNone_none, Bool.true_and]
    rw [ready_finish]
    exact congrArg Channel.ready (chan_modChan_self ..)

/-! ### The state after reset -/

theorem chan_reset (c : Chan) : State.reset.chan c = Channel.afterReset builtinChannel 0 := by
  simp [chan_def, State.reset]

theorem group_reset (i : SlotId) : State.reset.group i = none := by
  simp [State.group, slot_def, State.reset, Slot.fresh]

/-- Settles O12: the reset state has no group and no entry; its channels are new and its settings built in. -/
theorem resetStateSound : Obligations.ResetStateSound := by
  have hno : ∀ i g, State.reset.group i ≠ some g := fun i g h => by rw [group_reset] at h; cases h
  refine ⟨fun i g h => absurd h (hno i g), fun i g h => absurd h (hno i g), fun c p i => ?_, ?_, fun c => ?_, fun c h hc => ?_,
    ?_, ⟨fun _ => rfl, rfl, nofun⟩, ?_, rfl, ?_⟩
  · rw [chan_reset]
    simp [Channel.afterReset, group_reset]
  · have htable : State.reset.table = [] := rfl
    have hnone : slotIds.flatMap (fun _ => ([] : List Radio)) = [] := List.flatMap_eq_nil_iff.mpr fun _ _ => rfl
    refine ⟨?_, Nat.zero_le 96, nofun, fun i r h => ?_⟩
    · simp [State.knownRadios, group_reset, htable, hnone]
    · rw [group_reset] at h
      cases h
  · rw [chan_reset]
    exact sound_afterReset _ _
  · rw [chan_reset] at hc
    cases hc
  · obtain ⟨hchannels, hdevice⟩ := builtin_inRange
    have hbuiltin : ∀ c, builtinProfile.channels.get c = builtinChannel := by decide
    refine ⟨hdevice, fun c => ?_, builtin_inRange, nofun⟩
    have hc := hchannels c
    rw [hbuiltin] at hc
    rw [chan_reset]
    exact ⟨hc.1, hc.2, nofun⟩
  · simp [State.lostSample, chan_reset, AttentionProofs.sampleLost_afterReset]
  · simp [State.nextHandOver, State.winner, chan_reset, AttentionProofs.mayHandOver_afterReset]

end Sys2Proof.QuietProofs
end

section
/-!
Stops: what an added cause leaves of every group, the stops from the host (R95, R96) and the area lines (R91 to R94).
-/
namespace Sys2Proof.HostProofs
open Sys2Proof Sys2Proof.Machine Sys2Proof.Machine.Laws Sys2Proof.CommandProofs Sys2Proof.DeviceProofs
  Sys2Proof.PortProofs Sys2Proof.SlotProofs Sys2Proof.RecordProofs Sys2Proof.FloorProofs Sys2Proof.HaltProofs
  Sys2Proof.EvolveProofs Sys2Proof.CalmProofs Sys2Proof.EntryProofs Sys2Proof.EvolvesProofs Sys2Proof.StopProofs Sys2Proof.SampleProofs

/-! ### What lasts -/

/-- R78: a cause that no valid frame removes. -/
def Lasting (c : Cause) : Prop := c ≠ .locoLink ∧ c ≠ .leaderLink

/-- R76, R77: a record keeps the cause `c`, and the state of a group that has stopped. -/
def Lasts (c : Cause) (g g' : Machine.Group) : Prop :=
  (g.causes.has c = true → g'.causes.has c = true) ∧ (g.state.entersHalt = false → g'.state.entersHalt = false)

theorem Lasts.refl (c : Cause) (g : Machine.Group) : Lasts c g g := ⟨id, id⟩

theorem Lasts.trans {c : Cause} {a b d : Machine.Group} (h : Lasts c a b) (h' : Lasts c b d) : Lasts c a d :=
  ⟨fun hc => h'.1 (h.1 hc), fun hs => h'.2 (h.2 hs)⟩

/-- Every group but those in `X` stays and lasts. -/
def Through (c : Cause) (X : SlotId → Prop) (s u : State) : Prop :=
  ∀ i g, ¬ X i → s.group i = some g → ∃ g', u.group i = some g' ∧ Lasts c g g'

theorem through_of_groups {c : Cause} {X : SlotId → Prop} {s u : State} (h : ∀ i, ¬ X i → u.group i = s.group i) :
    Through c X s u := fun i g hi hg => ⟨g, (h i hi).trans hg, .refl c g⟩

theorem through_of_slots {c : Cause} {X : SlotId → Prop} {s u : State} (h : u.slots = s.slots) : Through c X s u :=
  through_of_groups fun i _ => group_congr h i

theorem through_trans {c : Cause} {X : SlotId → Prop} {s v u : State} (h : Through c X s v) (h' : Through c X v u) :
    Through c X s u := fun i g hi hg => by
  obtain ⟨g₁, hg₁, hl₁⟩ := h i g hi hg
  obtain ⟨g₂, hg₂, hl₂⟩ := h' i g₁ hi hg₁
  exact ⟨g₂, hg₂, hl₁.trans hl₂⟩

theorem through_foldl {α : Type} {c : Cause} {X : SlotId → Prop} {f : State → α → State}
    (h : ∀ s a, Through c X s (f s a)) (l : List α) (s : State) : Through c X s (l.foldl f s) := by
  induction l generalizing s with
  | nil => exact through_of_slots rfl
  | cons a l ih => exact through_trans (h s a) (ih _)

/-- R67: a refresh removes a link cause at most, and turns a group in service alone. -/
theorem lasts_refreshed {c : Cause} (hc : Lasting c) (w : Nat) (g : Machine.Group) (r : Radio) (role : Role) :
    Lasts c g (refreshed w g r role) := by
  obtain ⟨hloco, hleader⟩ := hc
  refine ⟨fun h => ?_, fun h => ?_⟩
  · rw [refreshed, judged_causes]
    cases role with
    | loco => exact (has_del_ne (Ne.symm hloco)).trans h
    | leader => exact (has_del_ne (Ne.symm hleader)).trans h
    | crew => exact h
  · have hstate : (leveled g r role).state = g.state := by cases role <;> rfl
    have hout : ¬ InService (refreshed w g r role) := fun hs => by
      have := entersHalt_of_inService ((refreshed_inService r role).mp hs)
      rw [h] at this
      cases this
    unfold refreshed judged
    rw [hstate]
    cases hg : g.state <;> simp [hg, GroupState.entersHalt] at h ⊢ <;> rw [hstate, hg]

theorem through_refresh {c : Cause} (hc : Lasting c) (X : SlotId → Prop) (s : State) (j : SlotId) (r : Radio) :
    Through c X s (s.refresh j r) := fun i g _ hg => by
  by_cases hij : i = j
  · subst hij
    cases hrole : g.roleOf r with
    | none => exact ⟨g, by rw [refresh_stranger hg hrole, hg], .refl c g⟩
    | some role => exact ⟨_, by rw [refresh_eq hg hrole, group_setSlot_held], lasts_refreshed hc _ g r role⟩
  · refine ⟨g, ?_, .refl c g⟩
    rw [refresh_eq_setSlot, group_setSlot_ne _ _ (Ne.symm hij), hg]

theorem through_endGrant {c : Cause} (hc : Lasting c) (X : SlotId → Prop) (s : State) (d : Chan) :
    Through c X s (s.endGrant d) := by
  rcases endGrant_cases s d with ⟨-, he⟩ | ⟨h, -, he⟩ | ⟨h, q₁, x, q₂, j, role, g, -, -, -, -, -, -, -, -, he⟩ <;> rw [he]
  · exact through_of_slots rfl
  · exact through_of_slots rfl
  · exact through_trans (v := s.setChan d _) (through_of_slots rfl) (through_refresh hc X _ j x)

theorem through_passFloor {c : Cause} (hc : Lasting c) (X : SlotId → Prop) (s : State) (d : Chan) :
    Through c X s (s.passFloor d) := by
  rcases passFloor_cases s d with he | ⟨q₁, x, q₂, j, role, -, -, -, he⟩ <;> rw [he]
  · exact through_of_slots rfl
  · exact through_trans (v := s.setChan d _) (through_of_slots rfl) (through_refresh hc X _ j x)

theorem through_local {c : Cause} {s u : State} {i : SlotId} (h : Local i s u) : Through c (· = i) s u :=
  through_of_groups fun j hj => h.others j hj

theorem through_enterHalt {c : Cause} (hc : Lasting c) (s : State) (i : SlotId) :
    Through c (· = i) s (s.enterHalt i) := by
  cases hg : s.group i with
  | none => rw [State.enterHalt, hg]; exact through_of_slots rfl
  | some g =>
    rw [enterHalt_eq hg, grounded]
    refine through_trans ?_ (through_trans (through_local (local_haltBeat _ i)) (through_local (.modGroup _ i _)))
    have hcancelled : ∀ v : State, Through c (· = i) v (v.cancelJoin i true) := fun v =>
      through_of_groups fun j hj => by rw [State.group, slot_cancelJoin_ne v true hj, State.group]
    refine through_trans (through_trans (through_local ((((Local.modGroup s i fun g => { g with state := .halt }).trans (.mark _ i)).trans
      (local_discardOrder _ i)).trans (local_dropApproach _ i))) (hcancelled _)) ?_
    exact withdrawGroup_keeps (P := fun u => Through c (· = i) _ u)
      (fun u d hu => through_trans hu (through_endGrant hc _ u d)) _ _ (through_of_slots rfl)

theorem lasts_caused (c : Cause) (g : Machine.Group) (cs : Causes) : Lasts c g (caused g cs) := by
  unfold caused
  split
  · exact .refl c g
  · split
    · next he =>
      obtain ⟨ns, hns⟩ := halting_shape { g with causes := g.causes.union cs }
      refine ⟨fun h => ?_, fun h => ?_⟩
      · rw [hns]
        simp [noticed, h]
      · rw [h] at he
        cases he
    · exact ⟨fun h => by simp [h], id⟩

/-- R76: an added cause takes no lasting cause from any group, and brings none that has stopped back into service. -/
theorem through_addCauses {c : Cause} (hc : Lasting c) (s : State) (i : SlotId) (cs : Causes) :
    Through c (fun _ => False) s (s.addCauses i cs) := by
  have hothers : Through c (· = i) s (s.addCauses i cs) := by
    have hmarked : Through c (· = i) s ((s.modGroup i fun g => { g with causes := g.causes.union cs }).mark i) :=
      through_local ((Local.modGroup s i _).trans (.mark _ i))
    unfold State.addCauses
    split
    · exact through_of_slots rfl
    · split
      · exact through_of_slots rfl
      · dsimp only
        split
        · exact through_trans hmarked (through_enterHalt hc _ i)
        · exact hmarked
  intro j g _ hg
  by_cases hj : j = i
  · subst hj
    exact ⟨caused g cs, group_addCauses cs hg, lasts_caused c g cs⟩
  · exact hothers j g hj hg

/-! ### The stopped group -/

theorem union_single (cs : Causes) (c : Cause) : cs.union (Causes.single c) = cs.add c := by
  refine causes_ext fun d => ?_
  rw [has_union]
  by_cases h : c = d
  · subst h
    simp [Causes.single]
  · rw [Causes.single, Causes.add, Causes.add, has_put_ne _ _ h, has_put_ne _ _ h]
    cases d <;> simp [Causes.has]

theorem caused_causes (g : Machine.Group) (cs : Causes) : (caused g cs).causes = g.causes.union cs := by
  unfold caused
  split
  · next h => exact h.symm
  · split
    · obtain ⟨ns, hns⟩ := halting_shape { g with causes := g.causes.union cs }
      rw [hns]
      rfl
    · rfl

theorem stopped_iff {st : GroupState} : st.entersHalt = false ↔ st = .halt ∨ st = .releasing := by
  cases st <;> simp [GroupState.entersHalt]

/-- R76, R81: a group that has been given a cause has stopped. -/
theorem caused_stopped {g : Machine.Group} {cs : Causes} (hcs : cs ≠ {}) (hsound : g.CausesSound) :
    (caused g cs).state.entersHalt = false := by
  unfold caused
  by_cases he : g.state.entersHalt = true
  · have hunion : ¬ g.causes.union cs = g.causes := by
      rw [hsound he, empty_union]
      exact hcs
    obtain ⟨ns, hns⟩ := halting_shape { g with causes := g.causes.union cs }
    rw [if_neg hunion, if_pos he, hns]
    rfl
  · have hout : g.state.entersHalt = false := by simpa using he
    split
    · exact hout
    · exact hout

/-- R76: a lasting cause that is added to groups in turn is held by each, and each has stopped where the records are sound. -/
theorem group_foldl_addCause {c : Cause} (hc : Lasting c) (hstop : c ≠ .stopUnconfirmed) {l : List SlotId} {s : State}
    {i : SlotId} {g : Machine.Group} (hi : i ∈ l) (hg : s.group i = some g) :
    ∃ g', (l.foldl (fun s j => s.addCause j c) s).group i = some g' ∧ g'.causes.has c = true
      ∧ (s.GroupsSound → g'.state.entersHalt = false) := by
  have hthrough : ∀ (l : List SlotId) (s : State), Through c (fun _ => False) s (l.foldl (fun s j => s.addCause j c) s) :=
    through_foldl (f := fun s j => s.addCause j c) fun s j => through_addCauses hc s j _
  have hevolves : ∀ (l : List SlotId) (s : State), Evolves s (l.foldl (fun s j => s.addCause j c) s) :=
    Evolves.foldl (f := fun s j => s.addCause j c) fun s j => evolves_of_calm (calm_addCause s j hstop)
  obtain ⟨before, after, rfl⟩ := List.append_of_mem hi
  rw [List.foldl_append, List.foldl_cons]
  obtain ⟨g₁, hg₁, -⟩ := hthrough before s i g id hg
  have hadded := group_addCauses (Causes.single c) hg₁
  obtain ⟨g₂, hg₂, hcause, hstate⟩ := hthrough after _ i _ id hadded
  refine ⟨g₂, hg₂, hcause ?_, fun hs => hstate ?_⟩
  · rw [caused_causes, union_single, has_add_self]
  · exact caused_stopped (single_ne_empty c) ((hevolves before s).groups hs i g₁ hg₁).causes

/-! ### Removals -/

theorem group_removeCause (s : State) (i j : SlotId) (c : Cause) :
    (s.removeCause i c).group j
      = (s.group j).map fun g => if j = i then { g with causes := g.causes.del c } else g := by
  by_cases hj : j = i
  · subst hj
    cases hg : s.group j with
    | none => simp [State.removeCause, hg]
    | some g => rw [removeCause_eq c hg, group_setSlot_held]; simp
  · simp only [if_neg hj, Option.map_id']
    cases hg : s.group i with
    | none => simp [State.removeCause, hg]
    | some g => rw [removeCause_eq c hg, group_setSlot_ne _ _ (Ne.symm hj)]

/-- R77: a cause that is removed from groups in turn has left each of them, and nothing else has changed. -/
theorem group_foldl_removeCause (c : Cause) (l : List SlotId) (s : State) (j : SlotId) :
    (l.foldl (fun s i => s.removeCause i c) s).group j
      = (s.group j).map fun g => if j ∈ l then { g with causes := g.causes.del c } else g := by
  induction l generalizing s with
  | nil => simp
  | cons i l ih =>
    rw [List.foldl_cons, ih, group_removeCause, Option.map_map]
    congr 1
    funext g
    by_cases hi : j = i <;> by_cases hl : j ∈ l <;> simp [hi, hl, del_absent (has_del_self g.causes c)]

theorem chans_foldl_removeCause (c : Cause) (l : List SlotId) (s : State) :
    (l.foldl (fun s i => s.removeCause i c) s).chans = s.chans := by
  induction l generalizing s with
  | nil => rfl
  | cons i l ih => rw [List.foldl_cons, ih, removeCause_chans]

/-! ### Stops from the host -/

theorem lasting_control : Lasting .control := ⟨by decide, by decide⟩

theorem group_controlAll {s : State} {i : SlotId} {g : Machine.Group} (hg : s.group i = some g) :
    ∃ g', s.controlAll.group i = some g' ∧ g'.causes.control = true ∧ (s.GroupsSound → g'.state.entersHalt = false) :=
  group_foldl_addCause lasting_control (by decide) (List.mem_finRange i) hg

theorem countControl_eq (s : State) (b : Bool) :
    s.countControl b = slotIds.countP fun i => (s.group i).any fun g => g.causes.control == b :=
  List.countP_eq_length_filter.symm

/-- Settles O58: the cause is added or removed slot by slot, and what is done to one slot leaves the causes and the stop of
the others. -/
theorem hostStops : Obligations.HostStops := by
  intro t n s hn hstore hmode hsound
  have hrule := judge_notInFallback hmode
  refine ⟨fun gf i g hnames hg => ?_, ⟨(s.begun t n).controlAll, ?_, fun i g hg => ?_⟩, fun gf i g hnames hg => ?_,
    (s.begun t n).releaseAll, ?_, ?_, fun i g hg => ?_⟩
  · have hgroup : (s.begun t n).group i = some g := by rw [group_begun, hg]
    refine ⟨(s.begun t n).addCause i .control, ?_, caused g (Causes.single .control), group_addCauses _ hgroup,
      by rw [caused_causes, union_single], stopped_iff.mp (caused_stopped (single_ne_empty _) (hsound i g hg).causes)⟩
    rw [exec_taken (i := .haltGroup t n gf) rfl hn hstore hrule]
    simp only [portBody, State.haltGroupBody]
    rw [onGroup_named (namesGroup_begun.mpr hnames) hgroup rfl]
    rfl
  · rw [exec_taken (i := .allHalt t n) rfl (by simp; omega) hstore hrule]
    simp only [portBody, Verdict.apply, countControl_eq, group_begun]
    simp
  · obtain ⟨g', hg', hcontrol, hstate⟩ := group_controlAll (s := s.begun t n) (i := i) (g := g) (by rw [group_begun, hg])
    exact ⟨g', hg', hcontrol, stopped_iff.mp (hstate fun j x hx => hsound j x (by rwa [group_begun] at hx))⟩
  · have hgroup : (s.begun t n).group i = some g := by rw [group_begun, hg]
    have hone : gf.selector ≠ 2 := by
      rcases hnames with ⟨h, -⟩ | ⟨h, -⟩ <;> omega
    refine ⟨_, ?_, rfl⟩
    rw [exec_taken (i := .releaseHalt t n gf) rfl hn hstore hrule]
    simp only [portBody, State.releaseHaltBody, if_neg hone]
    rw [onGroup_named (namesGroup_begun.mpr hnames) hgroup rfl, removeCause_eq _ hgroup, slot_begun]
    rfl
  · rw [exec_taken (i := .releaseHalt t n _) rfl hn hstore hrule]
    simp only [portBody, State.releaseHaltBody, if_true, Verdict.apply, countControl_eq, group_begun]
    simp
  · exact (chans_foldl_removeCause _ _ _).trans (begun_chans t n s)
  · refine (group_foldl_removeCause .control slotIds _ i).trans ?_
    rw [group_begun, hg]
    simp [slotIds]

/-! ### Area lines -/

theorem lasting_area : Lasting .area := ⟨by decide, by decide⟩

theorem groups_foldl {α : Type} {f : State → α → State} (h : ∀ s a, (f s a).slots = s.slots) (l : List α) (s : State) :
    (l.foldl f s).slots = s.slots := by
  induction l generalizing s with
  | nil => rfl
  | cons a l ih => rw [List.foldl_cons, ih, h]

theorem clearHolder_slots (s : State) (c : Chan) : (s.clearHolder c).slots = s.slots := by
  rcases clearHolder_cases s c with ⟨-, he⟩ | ⟨h, -, he⟩ <;> rw [he]
  rfl

/-- R92: every mapped group holds AREA and has stopped. -/
theorem group_areaStop {s : State} {area : Area} {i : SlotId} {g : Machine.Group} (hs : s.GroupsSound)
    (hg : s.group i = some g) (harea : g.area = area) :
    ∃ g', (s.areaStop area).group i = some g' ∧ g'.causes.area = true ∧ g'.state.entersHalt = false := by
  obtain ⟨v, hv⟩ : ∃ v, v = (s.concerned area).foldl (fun s c => s.clearHolder c)
      ((s.concerned area).foldl (State.pruneQueue area) s) := ⟨_, rfl⟩
  have hslots : v.slots = s.slots := by
    rw [hv, groups_foldl clearHolder_slots, groups_foldl (f := State.pruneQueue area) fun _ _ => rfl]
  have hmapped : i ∈ s.mappedSlots area := List.mem_filter.mpr
    ⟨List.mem_finRange i, by simp [State.mapped, hg, harea]⟩
  obtain ⟨g₁, hg₁, hcause, hstate⟩ := group_foldl_addCause lasting_area (by decide) hmapped
    ((group_congr hslots i).trans hg)
  have hthrough : Through .area (fun _ => False) ((s.mappedSlots area).foldl (fun s i => s.addCause i .area) v)
      (s.areaStop area) := by
    unfold State.areaStop
    dsimp only
    rw [← hv]
    refine through_foldl (f := State.passCleared _) (fun w c => ?_) _ _
    unfold State.passCleared
    split
    · exact through_passFloor lasting_area _ w c
    · exact through_of_slots rfl
  obtain ⟨g₂, hg₂, hcause₂, hstate₂⟩ := hthrough i g₁ id hg₁
  exact ⟨g₂, hg₂, hcause₂ hcause, hstate₂ (hstate fun j x hx => hs j x ((group_congr hslots j).symm.trans hx))⟩

theorem group_setLine (s : State) (l : AreaLine) (b : Bool) (i : SlotId) : (s.setLine l b).group i = s.group i := by
  cases l <;> rfl

theorem areaAsserted_setLine (s : State) (l : AreaLine) (b : Bool) : (s.setLine l b).areaAsserted (areaOfLine l) = b := by
  cases l <;> rfl

theorem mem_mappedSlots {s : State} {area : Area} {i : SlotId} {g : Machine.Group} (hg : s.group i = some g) :
    i ∈ s.mappedSlots area ↔ g.area = area := by
  simp [State.mappedSlots, State.mapped, slotIds, hg]

/-- R91: the held levels of the area lines. -/
theorem areaAsserted_of_host {s u : State} (h : hostPart u = hostPart s) (area : Area) :
    u.areaAsserted area = s.areaAsserted area := by
  simp only [hostPart, Prod.mk.injEq] at h
  cases area <;> simp [State.areaAsserted, h]

/-- Settles O51: the assertion adds the cause to the mapped slots, the release removes it, and SET-AREA removes it where
the old line is asserted. -/
theorem areaStops : Obligations.AreaStops := by
  refine ⟨fun t l s hs hlow => ?_, fun t l s hhigh => ?_, fun t n gf i g k area s hnames hn hstore hmode hg hk hlow => ?_⟩
  · have hlevel : (s.tick t).areaAsserted (areaOfLine l) = false := hlow
    have hdef : (s.tick t).lineAsserted l = ((s.tick t).setLine l true).areaStop (areaOfLine l) := by
      rw [State.lineAsserted, if_neg (by simp [hlevel])]
    refine ⟨_, exec_event_eq rfl hdef, ?_, fun i g hg harea => ?_⟩
    · rw [areaAsserted_of_host (areaStop_host _ _), areaAsserted_setLine]
    · obtain ⟨g', hg', hcause, hstate⟩ := group_areaStop (s := (s.tick t).setLine l true) (i := i) (g := g)
        (fun j x hx => hs j x (by rw [group_setLine] at hx; exact hx)) (by rw [group_setLine]; exact hg) harea
      exact ⟨g', hg', hcause, stopped_iff.mp hstate⟩
  · have hlevel : (s.tick t).areaAsserted (areaOfLine l) = true := hhigh
    have hdef : (s.tick t).lineReleased l = ((s.tick t).mappedSlots (areaOfLine l)).foldl
        (fun s i => s.removeCause i .area) ((s.tick t).setLine l false) := by
      rw [State.lineReleased, if_pos hlevel]
    refine ⟨_, exec_event_eq rfl hdef, ?_, ?_, fun i g hg => ?_⟩
    · rw [areaAsserted_of_host (foldl_host (fun _ _ => removeCause_host _ _ _) _ _), areaAsserted_setLine]
    · rw [chans_foldl_removeCause]
      cases l <;> rfl
    · have hgroup : (s.tick t).group i = some g := hg
      rw [group_foldl_removeCause, group_setLine, hgroup, Option.map_some]
      simp only [mem_mappedSlots hgroup]
  · have hgroup : (s.begun t n).group i = some g := by rw [group_begun, hg]
    have hasserted : ∀ x, (s.begun t n).areaAsserted x = s.areaAsserted x := fun x => by
      cases x <;> simp [State.areaAsserted]
    have hchange : (s.begun t n).changeArea i g area = (s.begun t n).setSlot i
        { changed := (s.slot i).changed || (decide (g.area ≠ area) && s.areaAsserted g.area && g.causes.area),
          body := .held { g with
            area := area
            causes := if g.area ≠ area ∧ s.areaAsserted g.area = true then g.causes.del .area else g.causes } } := by
      unfold State.changeArea
      dsimp only
      rw [hasserted, hasserted, hlow]
      by_cases hsame : g.area = area
      · subst hsame
        simp only [if_true, ne_eq, not_true, decide_false, Bool.false_and, Bool.or_false, false_and, if_false]
        conv_lhs => rw [eq_setSlot hgroup, slot_begun]
      · rw [if_neg hsame, modGroup_eq _ hgroup, slot_begun]
        by_cases hold : s.areaAsserted g.area = true
        · simp only [Bool.false_eq_true, if_false, hold, if_true, removeCause_setSlot]
          simp [hsame, Causes.has]
        · simp [hsame, hold]
    rw [exec_taken (i := .setArea t n gf k) rfl hn hstore (judge_notInFallback hmode)]
    simp only [portBody, State.setAreaBody]
    rw [onGroup_named (namesGroup_begun.mpr hnames) hgroup (by simp [hk, need, firstRefusal])]
    simp only [hk, Verdict.apply, hchange]
    rfl

end Sys2Proof.HostProofs
end

section
/-!
The start of a move (R149 to R151) of a group that holds nothing a move takes away, and the opening of a group (R20 to R25).
-/
namespace Sys2Proof.StartProofs
open Sys2Proof Sys2Proof.Machine Sys2Proof.Machine.Laws Sys2Proof.CommandProofs Sys2Proof.DeviceProofs
  Sys2Proof.PortProofs Sys2Proof.SlotProofs Sys2Proof.RecordProofs Sys2Proof.FrameProofs Sys2Proof.FloorProofs
  Sys2Proof.HaltProofs Sys2Proof.EvolveProofs Sys2Proof.CalmProofs Sys2Proof.EntryProofs Sys2Proof.EvolvesProofs
  Sys2Proof.MoveProofs Sys2Proof.TableProofs Sys2Proof.SurveyProofs
  Sys2Proof.HostProofs

/-! ### The lowest free phase -/

theorem finRange_split {n : Nat} (k : Fin n) :
    ∃ before after, List.finRange n = before ++ k :: after ∧ ∀ j ∈ before, j < k := by
  obtain ⟨before, after, hsplit⟩ := List.append_of_mem (List.mem_finRange k)
  refine ⟨before, after, hsplit, fun j hj => ?_⟩
  have hsorted := List.pairwise_lt_finRange n
  rw [hsplit] at hsorted
  exact (List.pairwise_append.mp hsorted).2.2 j hj k List.mem_cons_self

/-- The lowest of the numbers of which `q` holds. -/
theorem find?_finRange {n : Nat} {q : Fin n → Bool} {k : Fin n} (hk : q k = true) (hlow : ∀ j, j < k → q j = false) :
    (List.finRange n).find? q = some k := by
  obtain ⟨before, after, hsplit, hbefore⟩ := finRange_split k
  exact List.find?_eq_some_iff_append.mpr ⟨hk, before, after, hsplit, fun j hj => by simp [hlow j (hbefore j hj)]⟩

/-- What the lowest number gives that gives anything. -/
theorem findSome?_finRange {n : Nat} {α : Type} {f : Fin n → Option α} {k : Fin n} {x : α} (hk : f k = some x)
    (hlow : ∀ j, j < k → f j = none) : (List.finRange n).findSome? f = some x := by
  obtain ⟨before, after, hsplit, hbefore⟩ := finRange_split k
  exact List.findSome?_eq_some_iff.mpr ⟨before, k, after, hsplit, hk, fun j hj => hlow j (hbefore j hj)⟩

theorem freePhase_eq {ch : Channel} {p : Phase} (hp : ch.occupancy.get p = none)
    (hlow : ∀ q, q < p → ch.occupancy.get q ≠ none) : ch.freePhase = some p :=
  find?_finRange (by simp [hp]) fun q hq => by
    rw [Option.isNone_eq_false_iff, Option.isSome_iff_ne_none]
    exact hlow q hq

theorem usable_eq {ch : Channel} (hlive : ch.mode = .live) (hjam : ch.survey.jammed = false) : ch.usable = true := by
  simp [Channel.usable, hlive, hjam]

/-! ### The requests at the old phase -/

/-- R151: what a move leaves at the old phase's source, the MOVE request apart. -/
theorem reqsFind_disposeOld (s : State) {c c' : Chan} (p p' : Phase) (hne : c' ≠ c) (k : ReqKind) :
    reqsFind (.phase p) k ((s.disposeOld c p c' p').chan c).reqs
      = if k = .beat ∨ k = .ease then none
        else if k = .halt then (reqsFind (.phase p) .halt (s.chan c).reqs).map
          fun _ => { source := .phase p, kind := .halt, body := .oldHalt }
        else reqsFind (.phase p) k (s.chan c).reqs := by
  obtain ⟨v, hv⟩ : ∃ v, v = if s.isPending c (.phase p) .halt = true then
      (s.withdraw c (.phase p) .beat).raise c (.phase p) .halt .oldHalt else s.withdraw c (.phase p) .beat := ⟨_, rfl⟩
  have hfind : ∀ k, reqsFind (.phase p) k (v.chan c).reqs
      = if k = .beat then none
        else if k = .halt then (reqsFind (.phase p) .halt (s.chan c).reqs).map
          fun _ => { source := .phase p, kind := .halt, body := .oldHalt }
        else reqsFind (.phase p) k (s.chan c).reqs := fun k => by
    have hbeat : reqsFind (.phase p) k ((s.withdraw c (.phase p) .beat).chan c).reqs
        = if k = .beat then none else reqsFind (.phase p) k (s.chan c).reqs := by
      rw [reqs_withdraw, if_pos rfl]
      split
      · next h => rw [h, reqsFind_withdraw_self]
      · next h => exact reqsFind_withdraw_ne _ fun ⟨_, he⟩ => h he.symm
    rw [hv]
    split
    · next hp =>
      rw [isPending_eq, Option.isSome_iff_exists] at hp
      obtain ⟨r, hr⟩ := hp
      rw [reqs_raise, if_pos rfl]
      by_cases hk : k = .halt
      · rw [hk, reqsFind_raise_self, if_neg (by decide), if_pos rfl, hr]
        rfl
      · rw [reqsFind_raise_ne _ fun ⟨_, he⟩ => hk he.symm, hbeat]
        simp [hk]
    · next hp =>
      have hnone : reqsFind (.phase p) .halt (s.chan c).reqs = none := by
        rw [isPending_eq] at hp
        simpa using hp
      rw [hbeat]
      by_cases hk : k = .halt
      · simp [hk, hnone]
      · simp [hk]
  have hdef : s.disposeOld c p c' p' = match reqsFind (.phase p) .ease (s.chan c).reqs with
      | none => v
      | some r => (v.withdraw c (.phase p) .ease).raise c' (.phase p') .ease r.body := by
    rw [hv]
    rfl
  rw [hdef]
  cases he : reqsFind (.phase p) .ease (s.chan c).reqs with
  | none =>
    dsimp only
    rw [hfind]
    by_cases hk : k = .ease
    · simp [hk, he]
    · simp [hk]
  | some r =>
    dsimp only
    rw [reqs_raise, if_neg hne, reqs_withdraw, if_pos rfl]
    by_cases hk : k = .ease
    · simp [hk]
    · rw [reqsFind_withdraw_ne _ fun ⟨_, h⟩ => hk h.symm, hfind]
      simp [hk]

/-! ### A move that takes nothing away -/

theorem discardOrder_none {s : State} {i : SlotId} {g : Machine.Group} (hg : s.group i = some g) (ho : g.order = none) :
    s.discardOrder i = s := by simp only [State.discardOrder, hg, ho]

theorem leaving_eq {s : State} {i : SlotId} {g : Machine.Group} (c : Chan) (p : Phase) (hg : s.group i = some g)
    (ho : g.order = none) :
    leaving s i g c p = (s.takePhase c p i).setSlot i
      { changed := (s.slot i).changed,
        body := .held { g with move := some (g.moveRecord (s.now + 1000 * s.device.moveWindow)) } } := by
  have hg' : (s.takePhase c p i).group i = some g := hg
  rw [leaving, modGroup_eq _ hg']
  exact discardOrder_none (group_setSlot_held ..) ho

theorem settleDeferred_none {s : State} {i : SlotId} {g : Machine.Group} (hg : s.group i = some g)
    (hcrew : ∀ m ∈ g.crew, m.level ≠ 0) : s.settleDeferred i = s := by
  have hnone : g.crew.filter (fun m => m.level == 0) = [] := by simpa [List.filter_eq_nil_iff] using hcrew
  simp only [State.settleDeferred, hg, hnone, List.foldl_nil]

/-- R149, R150: a move of a group with no order in flight, no floor and no deferred crew. -/
theorem startMove_plain {s : State} {i : SlotId} {g : Machine.Group} {c : Chan} (p : Phase) (hg : s.group i = some g)
    (ho : g.order = none) (hne : c ≠ g.channel) (hfloor : ∀ h, (s.chan g.channel).talk = some h → h.radio ∉ g.radios)
    (hcrew : ∀ m ∈ g.crew, m.level ≠ 0) :
    s.startMove i g c p = (arriving ((s.takePhase c p i).setSlot i
      { changed := (s.slot i).changed,
        body := .held { g with move := some (g.moveRecord (s.now + 1000 * s.device.moveWindow)) } }) i g c p).mark i := by
  rw [startMove_eq, departed, leaving_eq c p hg ho, withdrawGroup_self fun d hd f hf => ?_]
  · congr 1
    exact settleDeferred_none (group_arriving g c p (group_setSlot_held ..)) hcrew
  rw [List.mem_singleton.mp hd, chan_setSlot, State.takePhase, chan_modChan_ne _ _ hne] at hf
  exact hfloor f hf

theorem slot_arriving_ne (s : State) {i j : SlotId} (g : Machine.Group) (c : Chan) (p : Phase) (h : j ≠ i) :
    (arriving s i g c p).slot j = s.slot j := by
  rw [arriving, slot_raise, slot_congr (disposeOld_slots ..), slot_modGroup_ne _ _ (Ne.symm h)]

theorem reqsFind_arriving (s : State) (i : SlotId) {g : Machine.Group} {c : Chan} (p : Phase) (hne : c ≠ g.channel)
    {k : ReqKind} (hk : k ≠ .move) :
    reqsFind (.phase g.phase) k ((arriving s i g c p).chan g.channel).reqs
      = if k = .beat ∨ k = .ease then none
        else if k = .halt then (reqsFind (.phase g.phase) .halt (s.chan g.channel).reqs).map
          fun _ => { source := .phase g.phase, kind := .halt, body := .oldHalt }
        else reqsFind (.phase g.phase) k (s.chan g.channel).reqs := by
  rw [arriving, reqs_raise, if_pos rfl, reqsFind_raise_ne _ fun ⟨_, h⟩ => hk h.symm, reqsFind_disposeOld _ _ _ hne,
    chan_modGroup]

theorem isPending_arriving (s : State) (i : SlotId) {g : Machine.Group} {c : Chan} (p : Phase) (hne : c ≠ g.channel)
    {k : ReqKind} (hk : k = .beat ∨ k = .ease) :
    (arriving s i g c p).isPending g.channel (.phase g.phase) k = false := by
  have hmove : k ≠ .move := by rcases hk with rfl | rfl <;> decide
  rw [isPending_eq, reqsFind_arriving s i p hne hmove, if_pos hk]
  rfl

theorem moveCheck_ok {s : State} {g : Machine.Group} {c : Chan} {p : Phase}
    (hstate : g.state = .active ∨ g.state = .degraded ∨ g.state = .halt) (hwait : g.wait = none) (hmove : g.move = none)
    (hfinal : g.finalHalt = none) (hne : c ≠ g.channel) (husable : (s.chan c).usable = true)
    (hp : (s.chan c).freePhase = some p) : s.moveCheck g c = .ok p := by
  simp [State.moveCheck, hstate, hwait, hmove, hfinal, hne, husable, hp]

/-- Settles O57: such a move writes one slot, takes the target's phase, and disposes of the requests at the old one. -/
theorem moveStarts : Obligations.MoveStarts := by
  intro t n gf c i p g s hnames hn hstore hmode hg hstate hwait hmove hfinal horder hne hlive hjam hfree hlow hfloor hcrew
  obtain ⟨v, hv⟩ : ∃ v, v = s.begun t n := ⟨_, rfl⟩
  have hgroup : v.group i = some g := by rw [hv, group_begun, hg]
  have hchan : ∀ d, v.chan d = s.chan d := fun d => by rw [hv, chan_begun]
  have hcheck : v.moveCheck g c = .ok p := moveCheck_ok hstate hwait hmove hfinal hne
    (by rw [hchan]; exact usable_eq hlive hjam) (by rw [hchan]; exact freePhase_eq hfree hlow)
  have hstart := startMove_plain (s := v) p hgroup horder hne (fun h hh => hfloor h (by rwa [hchan] at hh)) hcrew
  have hexpiry : v.now + 1000 * v.device.moveWindow = max s.now t + 1000 * s.device.moveWindow := by simp [hv]
  have hslot : v.slot = s.slot := funext fun j => by rw [hv, slot_begun]
  rw [hexpiry, hslot] at hstart
  obtain ⟨w, hw⟩ : ∃ w, w = (v.takePhase c p i).setSlot i
      { changed := (s.slot i).changed,
        body := .held { g with move := some (g.moveRecord (max s.now t + 1000 * s.device.moveWindow)) } } := ⟨_, rfl⟩
  rw [← hw] at hstart
  have hwgroup := group_arriving (s := w) (i := i) g c p (by rw [hw, group_setSlot_held])
  have hwchan : ∀ d, w.chan d = if c = d then { s.chan c with occupancy := (s.chan c).occupancy.set p (some i) }
      else s.chan d := fun d => by
    rw [hw, chan_setSlot, State.takePhase, chan_modChan, hchan, hchan]
  refine ⟨v.startMove i g c p, ?_, ?_⟩
  · rw [exec_taken (i := .moveGroup t n gf c.val) rfl hn hstore (by rw [hmode]; rfl), ← hv]
    simp only [portBody, State.moveBody]
    rw [onGroup_named (hv ▸ namesGroup_begun.mpr hnames) hgroup (by simp [chanOf, need, firstRefusal])]
    simp only [chanOf, Fin.is_lt, dif_pos, Fin.eta, hcheck]
    rfl
  rw [hstart]
  refine ⟨?_, fun j hj => ?_, ?_, ?_, ?_, ?_, ?_, ?_⟩
  · rw [State.mark, slot_setSlot_self, slot_eq hwgroup]
    rfl
  · rw [slot_mark_ne _ (Ne.symm hj), slot_arriving_ne _ _ _ _ hj, hw, slot_setSlot_ne _ _ (Ne.symm hj), ← hslot]
    rfl
  · rw [chan_mark, (local_arriving w i g c p).occupancy, hwchan, if_pos rfl]
  · rw [chan_mark, (local_arriving w i g c p).occupancy, hwchan, if_neg hne]
  · rw [isPending_mark]
    exact isPending_raise_self ..
  · rw [isPending_mark]
    exact isPending_arriving w i p hne (.inl rfl)
  · rw [isPending_mark]
    exact isPending_arriving w i p hne (.inr rfl)
  · rw [chan_mark, reqsFind_arriving w i p hne (by decide), hwchan, if_neg hne]
    simp

/-! ### The entry into HALT of a group that holds nothing -/

theorem slot_toLeader_ne (s : State) {i j : SlotId} (n : Notice) (h : i ≠ j) : (s.toLeader i n).slot j = s.slot j :=
  slot_modGroup_ne s _ h

/-- R81: what the entry does for a record with no order, no approach record, no pending join and no floor. -/
theorem enterHalt_plain {s : State} {i : SlotId} {g : Machine.Group} (hg : s.group i = some g) (ho : g.order = none)
    (happroach : g.approach = none) (hj : g.join = none) (hfloor : ∀ c h, (s.chan c).talk = some h → h.radio ∉ g.radios) :
    s.enterHalt i = ((s.setSlot i { changed := true, body := .held { g with state := .halt } }).haltBeat i).toLeader i
      (.halted g.causes) := by
  have hgroup : (s.setSlot i { changed := true, body := .held { g with state := .halt } }).group i
      = some { g with state := .halt } := group_setSlot_held ..
  rw [enterHalt_eq hg, grounded, modGroup_eq _ hg, mark_setSlot, discardOrder_none hgroup ho, dropApproach_none hgroup happroach,
    cancelJoin_none true hgroup hj, withdrawGroup_self (s := s.setSlot i _) fun c _ f hf => hfloor c f hf]

theorem haltBeat_plain {s : State} {i : SlotId} {g : Machine.Group} (hg : s.group i = some g) (hm : g.move = none) :
    s.haltBeat i = (s.withdraw g.channel (.phase g.phase) .beat).raise g.channel (.phase g.phase) .halt .plain := by
  have hgroup : ((s.withdraw g.channel (.phase g.phase) .beat).raise g.channel (.phase g.phase) .halt .plain).group i
      = some g := hg
  simp only [State.haltBeat, hg, State.oldChannelHalt, hgroup, hm]

/-! ### The checks of an opening -/

theorem openRadios_ok {s : State} {loco leader : Radio} {c : Chan} {e₁ e₂ : RegEntry} (hne : loco ≠ leader)
    (h₁ : s.entry loco = some e₁) (h₂ : s.entry leader = some e₂) (hc₁ : e₁.channel = c) (hc₂ : e₂.channel = c)
    (hk₁ : e₁.kind = .loco) (hk₂ : e₂.kind = .handset) (hp₁ : e₁.pinned = none) (hp₂ : e₂.pinned = none) :
    s.openRadios loco leader c = .ok () := by
  simp [State.openRadios, hne, h₁, h₂, hc₁, hc₂, hk₁, hk₂, hp₁, hp₂]

theorem freePhase_full {ch : Channel} (h : ∀ q, ch.occupancy.get q ≠ none) : ch.freePhase = none :=
  List.find?_eq_none.mpr fun q _ => by simpa using h q

/-- R24: a channel of its own choice is the lowest usable one with a free phase. -/
theorem openPlace_any {s : State} {c : Chan} {p : Phase} (husable : (s.chan c).usable = true)
    (hp : (s.chan c).freePhase = some p)
    (hlow : ∀ d, d < c → (s.chan d).mode = .off ∨ (s.chan d).survey.jammed = true ∨ ∀ q, (s.chan d).occupancy.get q ≠ none) :
    s.openPlace none = .ok (c, p) := by
  have hfind : channels.findSome? (fun c => if (s.chan c).usable then (s.chan c).freePhase.map fun p => (c, p) else none)
      = some (c, p) := by
    refine findSome?_finRange (k := c) (by simp [husable, hp]) fun d hd => ?_
    rcases hlow d hd with h | h | h
    · simp [Channel.usable, h]
    · simp [Channel.usable, h]
    · simp [freePhase_full h]
  simp only [State.openPlace, hfind]

theorem openPlace_named {s : State} {c : Chan} {p : Phase} (husable : (s.chan c).usable = true)
    (hp : (s.chan c).freePhase = some p) : s.openPlace (some c) = .ok (c, p) := by
  simp [State.openPlace, husable, hp]

/-- R21, R185: a wagon length taken as the nearest end of its range. -/
theorem clampWagon (w : Nat) :
    clampStep 100 300 1 w = (max 100 (min w 300), !decide (100 ≤ w ∧ w ≤ 300)) := by
  unfold clampStep
  split
  · rw [Prod.mk.injEq]
    exact ⟨by omega, by simp; omega⟩
  · split
    · rw [Prod.mk.injEq]
      exact ⟨by omega, by simp; omega⟩
    · rw [if_neg (by omega), Prod.mk.injEq]
      exact ⟨by omega, by simp; omega⟩

/-- R21: what an OPEN names. -/
def named (a : OpenArgs) (c : Option Chan) (ar : Option Area) : Opening where
  call := a.call
  loco := a.loco
  leader := a.leader
  channel := c
  area := ar
  wagon := max 100 (min a.wagon 300)
  gate := decide (a.gate = 0)
  pairing := none

theorem openingOf_named {a : OpenArgs} {x : Option Chan} {ar : Option Area} (hlow : 1 ≤ a.call) (hhigh : a.call ≤ 99)
    (hc : openChanOf a.channel = some x) (harea : openAreaOf a.area = some ar) (hgate : a.gate ≤ 1) :
    openingOf a = .ok (named a x ar, !decide (100 ≤ a.wagon ∧ a.wagon ≤ 300)) := by
  have hcall : validCall a.call = true := by simp [validCall, hlow, hhigh]
  have hon : onOffOf a.gate = some (decide (a.gate = 0)) := by
    generalize a.gate = k at hgate
    interval_cases k <;> rfl
  simp only [openingOf, hcall, hc, harea, hon, clampWagon]
  rfl

/-! ### The opening -/

theorem slot_opened_ne (s : State) (o : Opening) {i j : SlotId} (c : Chan) (p : Phase) (h : j ≠ i) :
    (opened s o i c p).slot j = s.slot j := by
  rw [opened, slot_raise]
  exact slot_setSlot_ne _ _ (Ne.symm h)

theorem slot_opened (s : State) (o : Opening) (i : SlotId) (c : Chan) (p : Phase) :
    (opened s o i c p).slot i
      = { changed := true, body := .held (o.record c p (o.area.getD (s.chan c).config.defaultArea)) } := by
  rw [opened, slot_raise]
  exact slot_setSlot_self ..

theorem table_opened (s : State) (o : Opening) (i : SlotId) (c : Chan) (p : Phase) :
    (opened s o i c p).table = s.table.filter fun x => x.radio != o.loco && x.radio != o.leader := by
  show (s.table.filter _).filter _ = _
  rw [List.filter_filter]
  exact List.filter_congr fun x _ => Bool.and_comm _ _

theorem chans_opened (s : State) (o : Opening) (i : SlotId) (c : Chan) (p : Phase) :
    (opened s o i c p).chans = (s.setChan c { s.chan c with
      occupancy := (s.chan c).occupancy.set p (some i),
      reqs := reqsRaise { source := .phase p, kind := .attach, body := .plain } (s.chan c).reqs }).chans := by
  obtain ⟨v, hv⟩ : ∃ v, v = ((s.dropEntry o.loco).dropEntry o.leader).setSlot i
    { changed := true, body := .held (o.record c p (o.area.getD (s.chan c).config.defaultArea)) } := ⟨_, rfl⟩
  have hchans : v.chans = s.chans := by rw [hv]; rfl
  have hchan := chan_congr hchans c
  rw [opened, ← hv, State.raise, State.takePhase, modChan_modChan, State.modChan, hchan]
  show v.chans.set _ _ = s.chans.set _ _
  rw [hchans]

/-- R25, R92: the group of an opening whose area's line is asserted, HALT entered. -/
theorem openGroup_halted {s : State} {o : Opening} {i : SlotId} {c : Chan} {p : Phase}
    (hline : s.areaAsserted (o.area.getD (s.chan c).config.defaultArea) = true)
    (hfloor : ∀ d h, (s.chan d).talk = some h → h.radio ≠ o.loco ∧ h.radio ≠ o.leader) :
    Halted (s.openGroup o i c p) i (Causes.single .area)
      ∧ (∀ j, j ≠ i → (s.openGroup o i c p).slot j = s.slot j)
      ∧ (s.openGroup o i c p).table = (opened s o i c p).table
      ∧ (∀ d, ((s.openGroup o i c p).chan d).occupancy = ((opened s o i c p).chan d).occupancy)
      ∧ (s.openGroup o i c p).isPending c (.phase p) .attach = (opened s o i c p).isPending c (.phase p) .attach := by
  obtain ⟨x, hx⟩ : ∃ x, x = o.record c p (o.area.getD (s.chan c).config.defaultArea) := ⟨_, rfl⟩
  obtain ⟨v, hv⟩ : ∃ v, v = opened s o i c p := ⟨_, rfl⟩
  have hgroup : v.group i = some x := by rw [hv, hx, group_opened]
  have hopen : s.openGroup o i c p = v.addCause i .area := by rw [openGroup_eq, if_pos hline, hv]
  have henters : x.state.entersHalt = true := by rw [hx]; rfl
  have hcauses : x.causes = {} := by rw [hx]; rfl
  obtain ⟨w, hw⟩ : ∃ w, w = v.setSlot i { changed := true, body := .held { x with causes := Causes.single .area } } := ⟨_, rfl⟩
  have hwgroup : w.group i = some { x with causes := Causes.single .area } := by rw [hw, group_setSlot_held]
  have hwtalk : ∀ d, (w.chan d).talk = (s.chan d).talk := fun d => by
    rw [hw, chan_setSlot, hv, chan_congr (chans_opened ..), chan_setChan]
    split
    · next h => rw [← h]
    · rfl
  have henter := enterHalt_plain hwgroup (by rw [hx]; rfl) (by rw [hx]; rfl) (by rw [hx]; rfl) fun d h hh => by
    rw [hwtalk] at hh
    rw [hx]
    simpa [Group.radios, Opening.record] using hfloor d h hh
  obtain ⟨y, hy⟩ : ∃ y, y = w.setSlot i
      { changed := true, body := .held { x with causes := Causes.single .area, state := .halt } } := ⟨_, rfl⟩
  have hbeat := haltBeat_plain (s := y) (i := i) (g := { x with causes := Causes.single .area, state := .halt })
    (by rw [hy, group_setSlot_held]) (by rw [hx]; rfl)
  rw [← hy, hbeat] at henter
  rw [hopen, ← hv]
  refine ⟨halted_addCause hgroup henters hcauses, ?_⟩
  rw [addCause_first hgroup henters hcauses, ← hw, henter]
  refine ⟨fun j hj => ?_, ?_, fun d => ?_, ?_⟩
  · rw [slot_toLeader_ne _ _ (Ne.symm hj), slot_raise, slot_withdraw, hy, slot_setSlot_ne _ _ (Ne.symm hj), hw,
      slot_setSlot_ne _ _ (Ne.symm hj), hv, slot_opened_ne _ _ _ _ hj]
  · rw [toLeader_table, hy, hw]
    rfl
  · rw [chan_toLeader, (Local.raise i _ _ _ _ _).occupancy, (Local.withdraw i _ _ _ _).occupancy, hy, hw]
    rfl
  · rw [isPending_toLeader, isPending_raise_ne _ _ (by simp), isPending_withdraw_ne _ (by simp), hy, hw]
    rfl

/-- R12, R144: a registered radio holds no floor. -/
theorem holder_unregistered {s : State} (hradios : s.RadiosSound) (hfloors : s.FloorsSound) {r : Radio} {e : RegEntry}
    (he : s.entry r = some e) {d : Chan} {h : FloorHolder} (hh : (s.chan d).talk = some h) : h.radio ≠ r := by
  rintro rfl
  obtain ⟨i, role, g, -, hg, hrole, -⟩ := talkEligible_spec (hfloors d h hh)
  exact registered_apart hradios he hg (roleOf_isSome_iff.mp (by simp [hrole]))

/-- Settles O56: the checks give the lowest slot and phase; the record is the opening's, and an asserted line gives it its
first cause. -/
theorem openCreatesGroup : Obligations.OpenCreatesGroup := by
  intro t n a c i p ar e₁ e₂ s hradios hfloors hn hstore hmode hcallLow hcallHigh harea hgate hchannel hcall hslot hslotLow
    hlive hjam hfree hlow hne h₁ h₂ hc₁ hc₂ hk₁ hk₂ hp₁ hp₂
  obtain ⟨v, hv⟩ : ∃ v, v = s.begun t n := ⟨_, rfl⟩
  have hchan : ∀ d, v.chan d = s.chan d := fun d => by rw [hv, chan_begun]
  have hentry : ∀ r, v.entry r = s.entry r := fun r => by rw [hv, entry_begun]
  have hgroup : ∀ j, v.group j = s.group j := fun j => by rw [hv, group_begun]
  have husable : (v.chan c).usable = true := by rw [hchan]; exact usable_eq hlive hjam
  have hphase : (v.chan c).freePhase = some p := by rw [hchan]; exact freePhase_eq hfree hlow
  have hasserted : ∀ x, v.areaAsserted x = s.areaAsserted x := fun x => by cases x <;> simp [State.areaAsserted, hv]
  obtain ⟨x, hx, hplace⟩ : ∃ x, openChanOf a.channel = some x ∧ v.openPlace x = .ok (c, p) := by
    rcases hchannel with h | ⟨h, hany⟩
    · have := c.isLt
      exact ⟨some c, by rw [h, openChanOf, if_neg (by omega)]; simp [chanOf], openPlace_named husable hphase⟩
    · exact ⟨none, by rw [h]; rfl, openPlace_any husable hphase fun d hd => by rw [hchan]; exact hany d hd⟩
  have hfreeSlot : v.freeSlot = some i := find?_finRange (by simp [hgroup, hslot]) fun j hj => by
    rw [hgroup, Option.isNone_eq_false_iff, Option.isSome_iff_ne_none]
    exact hslotLow j hj
  have hcheck : v.openCheck (named a x ar) = .ok (i, c, p) := by
    have hnone : (v.slotOfCall a.call).isSome = false := by rw [hv, slotOfCall_begun, hcall]; rfl
    have hpair := openRadios_ok (s := v) hne ((hentry _).trans h₁) ((hentry _).trans h₂) hc₁ hc₂ hk₁ hk₂ hp₁ hp₂
    simp only [State.openCheck, named, hnone, hfreeSlot, hplace, hpair, Bool.false_eq_true, if_false]
  have hslots : ∀ j, v.slot j = s.slot j := fun j => by rw [hv, slot_begun]
  have hchans : v.chans = s.chans := by rw [hv, begun_chans]
  have hopenedChan : (opened v (named a x ar) i c p).chan c = { s.chan c with
      occupancy := (s.chan c).occupancy.set p (some i),
      reqs := reqsRaise { source := .phase p, kind := .attach, body := .plain } (s.chan c).reqs } := by
    rw [chan_congr (chans_opened v (named a x ar) i c p), chan_setChan_self, hchan]
  have hattach : (opened v (named a x ar) i c p).isPending c (.phase p) .attach = true := isPending_raise_self ..
  have htable : (opened v (named a x ar) i c p).table
      = s.table.filter (fun x => x.radio != a.loco && x.radio != a.leader) := by
    rw [table_opened, hv, begun_table]
    rfl
  refine ⟨v.openGroup (named a x ar) i c p, ?_, ?_⟩
  · rw [exec_taken (i := .openGroup t n a) rfl hn hstore (by rw [hmode]; rfl), ← hv]
    simp only [portBody, State.openBody, openingOf_named hcallLow hcallHigh hx harea hgate, hcheck, Verdict.apply]
    by_cases hw : 100 ≤ a.wagon ∧ a.wagon ≤ 300 <;> simp [hw]
  have hlineEq : v.areaAsserted ((named a x ar).area.getD (v.chan c).config.defaultArea)
      = s.areaAsserted (ar.getD (s.chan c).config.defaultArea) := by rw [hasserted, hchan]; rfl
  cases hline : s.areaAsserted (ar.getD (s.chan c).config.defaultArea) with
  | false =>
    have hopen : v.openGroup (named a x ar) i c p = opened v (named a x ar) i c p := by
      rw [openGroup_eq, hlineEq, hline]
      rfl
    rw [hopen]
    refine ⟨fun j hj => ?_, htable, by rw [hopenedChan], hattach, fun _ => ⟨?_, ?_⟩, nofun⟩
    · rw [slot_opened_ne _ _ _ _ hj, hslots]
    · rw [slot_opened, hchan]
      rfl
    · rw [chans_opened, hchan]
      show v.chans.set _ _ = s.chans.set _ _
      rw [hchans]
  | true =>
    obtain ⟨hhalted, hothers, htab, hocc, hpend⟩ := openGroup_halted (s := v) (o := named a x ar) (i := i) (p := p)
      (hlineEq.trans hline) fun d h hh => by
        rw [hchan] at hh
        exact ⟨holder_unregistered hradios hfloors h₁ hh, holder_unregistered hradios hfloors h₂ hh⟩
    refine ⟨fun j hj => ?_, htab.trans htable, by rw [hocc, hopenedChan], hpend.trans hattach, nofun, fun _ => hhalted⟩
    rw [hothers j hj, hslots]

end Sys2Proof.StartProofs
end

section
/-!
A missed poll (R65, R68, R73 to R75) and the end of a move window (R156 to R158).
-/
namespace Sys2Proof.MissProofs
open Sys2Proof Sys2Proof.Machine Sys2Proof.Machine.Laws Sys2Proof.CommandProofs Sys2Proof.DeviceProofs
  Sys2Proof.PortProofs Sys2Proof.SlotProofs Sys2Proof.RecordProofs Sys2Proof.FrameProofs Sys2Proof.FloorProofs
  Sys2Proof.HaltProofs Sys2Proof.MemberProofs Sys2Proof.EvolveProofs Sys2Proof.CalmProofs Sys2Proof.EntryProofs
  Sys2Proof.EvolvesProofs Sys2Proof.AirProofs Sys2Proof.MoveProofs Sys2Proof.SampleProofs Sys2Proof.StartProofs

/-! ### Whether a miss counts -/

theorem missExempt_iff {s : State} {g : Machine.Group} {r : Radio} {role : Role} :
    s.missExempt g r role = false ↔ s.Counts g r role := by
  simp only [State.missExempt, State.Counts, Bool.or_eq_false_iff, Bool.and_eq_false_iff, bne_eq_false_iff_eq,
    beq_eq_false_iff_ne, or_assoc]

section
variable {s : State} {i : SlotId} {g : Machine.Group} {w : AnswerWindow} {role : Role}

theorem closeMissed_exempt (hg : s.group i = some g) (hw : g.window = some w) (hrole : g.roleOf w.target = some role)
    (h : ¬ s.Counts g w.target role) :
    s.closeMissed i = s.setSlot i { changed := (s.slot i).changed, body := .held { g with window := none } } := by
  have hexempt : s.missExempt g w.target role = true := by
    rw [← Bool.not_eq_false, missExempt_iff]
    exact h
  simp only [State.closeMissed, hg, hw, hrole, hexempt, if_true]
  exact modGroup_eq _ hg

theorem closeMissed_counted {n : Nat} (hg : s.group i = some g) (hw : g.window = some w)
    (hrole : g.roleOf w.target = some role) (h : s.Counts g w.target role) (hlevel : g.levelOf w.target role = n + 1) :
    s.closeMissed i = (s.setSlot i { changed := (s.slot i).changed, body := .held { g with window := none } }).countMiss i g
      w.target role n := by
  have hcounts : s.missExempt g w.target role = false := missExempt_iff.mpr h
  simp only [State.closeMissed, hg, hw, hrole, hcounts, hlevel, Bool.false_eq_true, if_false]
  rw [modGroup_eq _ hg]

theorem exec_windowExpiry (t : Instant) (hg : s.group i = some g) (hw : g.window = some w) (hdue : w.expiry ≤ max s.now t) :
    exec (.answerWindowExpiry t i) s = .next ((s.tick t).closeMissed i).finish := by
  have hgroup : (s.tick t).group i = some g := hg
  refine exec_event_eq rfl ?_
  show (s.tick t).windowExpiry i = _
  rw [State.windowExpiry, hgroup, if_pos (by simpa [hw] using hdue)]

end

/-! ### A miss that counts -/

/-- R68, R70: a new level that crosses no threshold and calls for no judgement. -/
theorem countMiss_plain (s : State) (i : SlotId) (b : Bool) {g : Machine.Group} (x : Machine.Group) (r : Radio) (role : Role)
    {n : Nat} (hmark : ¬ (s.device.warn < n + 1 ∧ n ≤ s.device.warn)) (hok : WarnOk s.device.warn (g.setLevel r n role)) :
    (s.setSlot i { changed := b, body := .held g }).countMiss i x r role n
      = if n = 0 then (s.setSlot i { changed := b, body := .held (g.setLevel r n role) }).levelZero i x r role
        else s.setSlot i { changed := b, body := .held (g.setLevel r n role) } := by
  obtain ⟨hjudged, hturns⟩ := judged_of_ok hok
  have hjudge : (s.setSlot i { changed := b, body := .held (g.setLevel r n role) }).judgeWarn i
      = s.setSlot i { changed := b, body := .held (g.setLevel r n role) } := by
    rw [judgeWarn_setSlot, hjudged, hturns, Bool.or_false]
  have hdevice : (s.setSlot i { changed := b, body := .held g }).device = s.device := rfl
  simp only [State.countMiss, modGroup_setSlot, hdevice, if_neg hmark, hjudge]

/-- R70: a level above the threshold, lowered and still above it, leaves the warn condition. -/
theorem warnOk_lowered {warn n : Nat} {g : Machine.Group} (r : Radio) {role : Role} (h : WarnOk warn g) (hn : warn < n)
    (hlevel : g.levelOf r role = n + 1) : WarnOk warn (g.setLevel r n role) := by
  obtain ⟨hactive, hdegraded⟩ := h
  cases role with
  | crew => exact ⟨hactive, hdegraded⟩
  | loco =>
    have hl : g.loco.level = n + 1 := hlevel
    refine ⟨fun hs => ?_, fun hs => ?_⟩
    · exact warned_eq_false.mpr ⟨hn, (warned_eq_false.mp (hactive hs)).2⟩
    · exact warned_eq_true.mpr (.inr ((warned_eq_true.mp (hdegraded hs)).resolve_left (by omega)))
  | leader =>
    have hl : g.leader.level = n + 1 := hlevel
    refine ⟨fun hs => ?_, fun hs => ?_⟩
    · exact warned_eq_false.mpr ⟨(warned_eq_false.mp (hactive hs)).1, hn⟩
    · exact warned_eq_true.mpr (.inl ((warned_eq_true.mp (hdegraded hs)).resolve_right (by omega)))

theorem countMiss_above (s : State) (i : SlotId) (b : Bool) {g : Machine.Group} (x : Machine.Group) (r : Radio) (role : Role)
    {n : Nat} (hn : s.device.warn < n) (hok : WarnOk s.device.warn g) (hlevel : g.levelOf r role = n + 1) :
    (s.setSlot i { changed := b, body := .held g }).countMiss i x r role n
      = s.setSlot i { changed := b, body := .held (g.setLevel r n role) } := by
  rw [countMiss_plain s i b x r role (by omega) (warnOk_lowered r hok hn hlevel), if_neg (by omega)]

/-- R73, R75: the last level lost by a DEGRADED group's loco or leader. -/
theorem countMiss_degraded (s : State) (i : SlotId) (b : Bool) {g : Machine.Group} (x : Machine.Group) (r : Radio) {role : Role}
    (hrole : role ≠ .crew) (hstate : g.state = .degraded) :
    ∃ b', (s.setSlot i { changed := b, body := .held g }).countMiss i x r role 0
      = (s.setSlot i { changed := b', body := .held (g.setLevel r 0 role) }).levelZero i x r role := by
  obtain ⟨b', hb⟩ := lowered_eq (s := s.setSlot i { changed := b, body := .held g }) (group_setSlot_held ..) r role 0
    (s.device.warn < 0 + 1 ∧ 0 ≤ s.device.warn)
  have hwarned : (g.setLevel r 0 role).warned s.device.warn = true := by
    cases role with
    | loco => exact warned_eq_true.mpr (.inl (Nat.zero_le _))
    | leader => exact warned_eq_true.mpr (.inr (Nat.zero_le _))
    | crew => exact absurd rfl hrole
  have hkept : (g.setLevel r 0 role).state = .degraded := (setLevel_keeps g r 0 role).2.2.trans hstate
  have hok : WarnOk s.device.warn (g.setLevel r 0 role) :=
    ⟨fun h => by simp [hkept] at h, fun _ => hwarned⟩
  refine ⟨b', ?_⟩
  have hdevice : (s.setSlot i { changed := b, body := .held g }).device = s.device := rfl
  rw [hdevice, (judged_of_ok hok).1, setSlot_setSlot] at hb
  simp only [State.countMiss, if_true, hdevice]
  rw [hb]

/-! ### The loss of a crew member -/

/-- R74: a crew member of a group that is on no move leaves, holding no floor. -/
theorem loseMember_plain {s : State} {i : SlotId} {g : Machine.Group} {r : Radio} (b : Bool) (hm : g.move = none)
    (hfloor : ∀ d h, (s.chan d).talk = some h → h.radio ≠ r) :
    (s.setSlot i { changed := b, body := .held g }).loseMember i r
      = s.setSlot i { changed := true, body := .held (noticed (without g r) (.memberLost r) .leader) } := by
  have hlost : (s.setSlot i { changed := b, body := .held g }).loseCrew i r
      = s.setSlot i { changed := true, body := .held (noticed (without g r) (.memberLost r) .leader) } := by
    rw [State.loseCrew, modGroup_setSlot, withdrawFrom_self (s := s.setSlot i _) fun d h hh => hfloor d h hh, toLeader_setSlot,
      mark_setSlot]
    rfl
  have hnone : (noticed (without g r) (.memberLost r) .leader).move = none := by
    obtain ⟨ms, p, w, m, hshape, -, hmove, -⟩ := without_shape g r
    rw [hshape]
    exact hmove hm
  rw [State.loseMember, hlost, completeMove_none (group_setSlot_held ..) hnone]

theorem crew_radios_setLevel (g : Machine.Group) (r : Radio) (n : Nat) :
    (g.setLevel r n .crew).crew.map (·.radio) = g.crew.map (·.radio) := (setLevel_radios g r n .crew).2.2

/-- Settles O46: an exempt miss closes the window, one that counts lowers the level, and the last level brings what its
role brings. -/
theorem missedPoll : Obligations.MissedPoll := by
  intro t i g w role s hg hw hdue hrole
  have hexec := exec_windowExpiry t hg hw hdue
  have hgroup : (s.tick t).group i = some g := hg
  refine ⟨fun hexempt => ?_, fun hcounts => ⟨fun n hwarn hn => ?_, fun hstate hcauses => ⟨fun hr hlevel => ?_, fun hr hlevel => ?_⟩,
    fun hr hlevel hwarn hone => ⟨fun hjam => ?_, fun hjam hmove hfloor => ?_⟩⟩⟩
  · rw [hexec, closeMissed_exempt hgroup hw hrole hexempt]
    rfl
  · have hok : WarnOk (s.tick t).device.warn { g with window := none } := hwarn i g hg
    have hlowered : g.levelOf w.target role = n + 1 → exec (.answerWindowExpiry t i) s = .next ((s.tick t).setSlot i
        { changed := (s.slot i).changed,
          body := .held (Group.setLevel { g with window := none } w.target n role) }).finish := fun hlevel => by
      rw [hexec, closeMissed_counted hgroup hw hrole hcounts hlevel,
        countMiss_above (s.tick t) i _ g w.target role hn hok (by cases role <;> exact hlevel)]
      rfl
    refine ⟨fun hr hlevel => ?_, fun hr hlevel => ?_, fun hr hlevel => ?_⟩ <;> subst hr <;> exact hlowered hlevel
  · subst hr
    obtain ⟨b, hb⟩ := countMiss_degraded (s.tick t) i ((s.tick t).slot i).changed (g := { g with window := none }) g w.target
      (role := .loco) (by decide) hstate
    have hfirst := group_setSlot_held (s.tick t) i b (Group.setLevel { g with window := none } w.target 0 .loco)
    have henters : g.state.entersHalt = true := by rw [hstate]; rfl
    rw [closeMissed_counted (n := 0) hgroup hw hrole hcounts hlevel, hb] at hexec
    obtain ⟨ns, hns⟩ := group_addCause_first (c := .locoLink) hfirst henters hcauses
    exact ⟨_, hexec, halted_addCause hfirst henters hcauses, _, hns, rfl, rfl⟩
  · subst hr
    obtain ⟨b, hb⟩ := countMiss_degraded (s.tick t) i ((s.tick t).slot i).changed (g := { g with window := none }) g w.target
      (role := .leader) (by decide) hstate
    have hfirst := group_setSlot_held (s.tick t) i b (Group.setLevel { g with window := none } w.target 0 .leader)
    have henters : g.state.entersHalt = true := by rw [hstate]; rfl
    rw [closeMissed_counted (n := 0) hgroup hw hrole hcounts hlevel, hb] at hexec
    obtain ⟨ns, hns⟩ := group_addCause_first (c := .leaderLink) hfirst henters hcauses
    exact ⟨_, hexec, halted_addCause hfirst henters hcauses, _, hns, rfl, rfl⟩
  · subst hr
    have hok : WarnOk (s.tick t).device.warn (Group.setLevel { g with window := none } w.target 0 .crew) := hwarn i g hg
    rw [hexec, closeMissed_counted (n := 0) hgroup hw hrole hcounts hlevel,
      countMiss_plain (s.tick t) i _ g w.target .crew (show ¬ (s.device.warn < 0 + 1 ∧ 0 ≤ s.device.warn) by omega) hok, if_pos rfl]
    have hjammed : ((s.tick t).chan g.channel).survey.jammed = true := hjam
    simp only [State.levelZero, chan_setSlot, hjammed, if_true]
    rfl
  · subst hr
    have hok : WarnOk (s.tick t).device.warn (Group.setLevel { g with window := none } w.target 0 .crew) := hwarn i g hg
    have hjammed : ((s.tick t).chan g.channel).survey.jammed = false := hjam
    rw [closeMissed_counted (n := 0) hgroup hw hrole hcounts hlevel,
      countMiss_plain (s.tick t) i _ g w.target .crew (show ¬ (s.device.warn < 0 + 1 ∧ 0 ≤ s.device.warn) by omega) hok, if_pos rfl] at hexec
    simp only [State.levelZero, chan_setSlot, hjammed, Bool.false_eq_true, if_false] at hexec
    rw [loseMember_plain (s := s.tick t) (g := Group.setLevel { g with window := none } w.target 0 .crew) _ hmove hfloor]
      at hexec
    obtain ⟨ms, p, x, m, hshape, hradios, -, hwindow⟩ :=
      without_shape (Group.setLevel { g with window := none } w.target 0 .crew) w.target
    refine ⟨_, _, hexec, group_setSlot_held .., ?_⟩
    rw [hshape]
    refine ⟨hradios.trans ?_, rfl, rfl, rfl, rfl, rfl, hwindow, by rw [slot_setSlot_self],
      fun j hj => slot_setSlot_ne _ _ (Ne.symm hj), rfl, rfl⟩
    rw [crew_radios_setLevel]

/-! ### The end of a move window -/

theorem isPending_orphanOn (s : State) (d : Chan) (i : SlotId) (p : Frame → Bool) (c : Chan) (src : Source) (k : ReqKind) :
    (s.orphanOn d i p).isPending c src k = s.isPending c src k := by
  refine isPending_congr ?_
  rw [State.orphanOn, chan_modChan]
  split
  · next h => rw [h]
  · rfl

theorem isPending_freePhase (s : State) (d : Chan) (p : Phase) (c : Chan) (src : Source) (k : ReqKind) :
    (s.freePhase d p).isPending c src k = s.isPending c src k := by
  refine (isPending_of_chans (u := s.freePhase d p)
    (s := s.modChan d fun ch => { ch with occupancy := ch.occupancy.set p none }) rfl c src k).trans (isPending_congr ?_)
  rw [chan_modChan]
  split
  · next h => rw [h]
  · rfl

theorem exec_moveExpiry {s : State} {i : SlotId} {g : Machine.Group} {m : MoveRecord} (t : Instant) (hg : s.group i = some g)
    (hm : g.move = some m) (hdue : m.expiry ≤ max s.now t) :
    exec (.moveWindowExpiry t i) s = .next (if g.allChecked m = true then (s.tick t).completeMove i
      else (s.tick t).endMoveAbsent i g m).finish := by
  have hgroup : (s.tick t).group i = some g := hg
  refine exec_event_eq rfl ?_
  show (s.tick t).moveExpiry i = _
  simp only [State.moveExpiry, hgroup, hm]
  rw [if_pos (show m.expiry ≤ (s.tick t).now from hdue)]

/-- R156: what the completion writes, and what it withdraws. -/
theorem completeMove_eq {s : State} {i : SlotId} {g : Machine.Group} {m : MoveRecord} (hg : s.group i = some g)
    (hm : g.move = some m) (hall : g.allChecked m = true) :
    s.completeMove i = ((((((s.setSlot i { changed := (s.slot i).changed, body := .held (unmoved g) }).withdraw m.oldChan
      (.phase m.oldPhase) .move).withdraw m.oldChan (.phase m.oldPhase) .halt).freePhase m.oldChan m.oldPhase).orphanOn
      m.oldChan i fun _ => true).mark i) := by
  simp only [State.completeMove, hg, hm, hall, if_true]
  rw [modGroup_eq _ hg]
  rfl

/-- R82, R155: a group on the move that enters HALT has an old-channel HALT pending. -/
theorem isPending_enterHalt_old {s : State} {i : SlotId} {g : Machine.Group} {m : MoveRecord} (hg : s.group i = some g)
    (hm : g.move = some m) : (s.enterHalt i).isPending m.oldChan (.phase m.oldPhase) .halt = true := by
  obtain ⟨ns, hns⟩ := halting_shape g
  have hgroup : (grounded s i g.radios).group i = some (halting g) := group_of_body (by rw [slot_grounded g.radios hg])
  have hmove : (halting g).move = some m := by rw [hns]; exact hm
  have hgroup' : (((grounded s i g.radios).withdraw (halting g).channel (.phase (halting g).phase) .beat).raise
      (halting g).channel (.phase (halting g).phase) .halt .plain).group i = some (halting g) := hgroup
  rw [enterHalt_eq hg, isPending_toLeader]
  simp only [State.haltBeat, hgroup, State.oldChannelHalt, hgroup', hmove]
  exact isPending_raise_self ..

theorem allChecked_iff {g : Machine.Group} {m : MoveRecord} : g.allChecked m = true ↔ ∀ r ∈ g.radios, r ∈ m.checked := by
  simp [Group.allChecked]

/-- R157: the end of a window with the loco alone absent leaves the crew as it is and adds LOCO_LINK. -/
theorem absentEnd_loco {s : State} {i : SlotId} {g : Machine.Group} {m : MoveRecord} (hg : s.group i = some g)
    (hloco : g.loco.radio ∉ m.checked) (hleader : g.leader.radio ∈ m.checked) (hcrew : ∀ x ∈ g.crew, x.radio ∈ m.checked) :
    absentEnd s i g m = (s.setSlot i
      { changed := (s.slot i).changed, body := .held { g with loco := { g.loco with level := 0 } } }).addCause i .locoLink := by
  have hnone : (g.crew.filter fun x => !m.checked.contains x.radio) = [] := by
    simpa [List.filter_eq_nil_iff] using hcrew
  have hl : (!m.checked.contains g.loco.radio) = true := by simpa using hloco
  have hd : (!m.checked.contains g.leader.radio) = false := by simpa using hleader
  rw [absentEnd, hnone, hl, hd, List.foldl_nil, modGroup_eq _ hg]
  rfl

/-- R158: with a HALT pending at the old phase and nothing on the air there, the final one is that HALT. -/
theorem setFinalHalt_pending {s : State} {i : SlotId} {m : MoveRecord} (hair : (s.chan m.oldChan).inFlight = none)
    (hpending : s.isPending m.oldChan (.phase m.oldPhase) .halt = true) :
    s.setFinalHalt i m = s.modGroup i fun g => { g with finalHalt := some { chan := m.oldChan, phase := m.oldPhase } } := by
  have hno : (s.chan m.oldChan).oldHaltOnAir i (.phase m.oldPhase) = false := by simp [Channel.oldHaltOnAir, hair]
  simp only [State.setFinalHalt, hno, hpending, Bool.false_eq_true, if_false, if_true]

theorem isPending_oldChannelEnd {s : State} {i : SlotId} {m : MoveRecord} (hair : (s.chan m.oldChan).inFlight = none)
    (hpending : s.isPending m.oldChan (.phase m.oldPhase) .halt = true) :
    (oldChannelEnd s i m true).isPending m.oldChan (.phase m.oldPhase) .move = false
      ∧ ∀ c src k, k ≠ .move → (oldChannelEnd s i m true).isPending c src k = s.isPending c src k := by
  simp only [oldChannelEnd, if_true, setFinalHalt_pending hair hpending]
  refine ⟨?_, fun c src k hk => ?_⟩
  · rw [isPending_mark, isPending_modGroup, isPending_orphanOn, isPending_withdraw_self]
  · rw [isPending_mark, isPending_modGroup, isPending_orphanOn, isPending_withdraw_ne _ fun ⟨_, _, h⟩ => hk h.symm,
      isPending_modGroup]

/-- Settles O47: a complete set ends the move; an absent loco is a first cause, and the HALT that the entry raises at the
old phase is the final one. -/
theorem moveWindowEnds : Obligations.MoveWindowEnds := by
  intro t i g m s hg hm hdue
  have hgroup : (s.tick t).group i = some g := hg
  have hexec := exec_moveExpiry t hg hm hdue
  refine ⟨fun hchecked => ?_, fun hloco hleader hcrew hstate hcauses _ hair => ?_⟩
  · have hall := allChecked_iff.mpr hchecked
    have heq := completeMove_eq hgroup hm hall
    rw [if_pos hall] at hexec
    refine ⟨_, hexec, ?_, fun j hj => ?_, (completeMove_done hgroup hm hall).1.freed _ _ ⟨rfl, rfl⟩, ?_, ?_⟩
    · have := (completeMove_done hgroup hm hall).2
      rw [slot_eq this, heq, State.mark, slot_setSlot_self]
      rfl
    · rw [heq, slot_mark_ne _ (Ne.symm hj)]
      exact slot_setSlot_ne _ _ (Ne.symm hj)
    · rw [heq, isPending_mark, isPending_orphanOn, isPending_freePhase]
      exact isPending_withdraw_of_not (isPending_withdraw_self ..)
    · rw [heq, isPending_mark, isPending_orphanOn, isPending_freePhase, isPending_withdraw_self]
  · have hnot : ¬ g.allChecked m = true := fun h =>
      hloco (allChecked_iff.mp h _ (List.mem_cons_self))
    have hl : (!m.checked.contains g.loco.radio) = true := by simpa using hloco
    rw [if_neg hnot, endMoveAbsent_eq, absentEnd_loco hgroup hloco hleader hcrew, hl] at hexec
    obtain ⟨w, hw⟩ : ∃ w, w = (s.tick t).setSlot i
      { changed := ((s.tick t).slot i).changed,
        body := .held { g with loco := { g.loco with level := 0 } } } := ⟨_, rfl⟩
    rw [← hw] at hexec
    have hwg : w.group i = some { g with loco := { g.loco with level := 0 } } := by rw [hw, group_setSlot_held]
    have henters : g.state.entersHalt = true := entersHalt_of_inService hstate
    obtain ⟨⟨x, hx, hxstate, hxcauses, hxorder, hxapproach, hxjoin, hxnotice, hxhalt, hxbeat⟩, -⟩ :=
      halted_addCause (c := .locoLink) hwg henters hcauses
    obtain ⟨ns, hns⟩ := group_addCause_first (c := .locoLink) hwg henters hcauses
    have hpending : (w.addCause i .locoLink).isPending m.oldChan (.phase m.oldPhase) .halt = true := by
      rw [addCause_first hwg henters hcauses]
      exact isPending_enterHalt_old (group_setSlot_held ..) hm
    have hcalm : Calm noSlot noHolder w (w.addCause i .locoLink) := calm_addCause w i (by simp)
    have hair' : ((w.addCause i .locoLink).chan m.oldChan).inFlight = none := by
      obtain ⟨-, -, -, -, -, -, -, -, -, hsame⟩ := core_fields (hcalm.chans m.oldChan).core
      have hwair : (w.chan m.oldChan).inFlight = none := by rw [hw, chan_setSlot]; exact hair
      rw [hwair] at hsame
      simpa using hsame
    have hocc : ((w.addCause i .locoLink).chan m.oldChan).occupancy = (s.chan m.oldChan).occupancy := by
      rw [hcalm.still.occupancy, hw]
      rfl
    generalize w.addCause i .locoLink = v at hexec hx hns hpending hair' hocc hxhalt hxbeat
    obtain ⟨hfrees, hleft⟩ := frees_oldChannelEnd m true hx
    obtain ⟨hmove, hother⟩ := isPending_oldChannelEnd (i := i) hair' hpending
    have hxeq : x = _ := Option.some.inj (hx.symm.trans hns)
    refine ⟨_, hexec, ⟨⟨_, hleft, hxstate, hxcauses, hxorder, hxapproach, hxjoin, hxnotice, ?_, ?_⟩, ?_⟩,
      ⟨_, hleft, ?_, rfl, rfl⟩, ?_, hmove, ?_⟩
    · exact (hother _ _ _ (by decide)).trans hxhalt
    · exact (hother _ _ _ (by decide)).trans hxbeat
    · rw [oldChannelEnd, State.mark, slot_setSlot_self]
    · rw [left, hxeq]
    · rw [hother _ _ _ (by decide), hpending]
    · rw [hfrees.kept _ _ (by simp), hocc]

end Sys2Proof.MissProofs
end

section
/-!
The writes of settings by the host (R50 to R52, R130, R194, R195).
-/
namespace Sys2Proof.SettingsProofs
open Sys2Proof Sys2Proof.Machine Sys2Proof.Machine.Laws Sys2Proof.CommandProofs Sys2Proof.DeviceProofs
  Sys2Proof.PortProofs Sys2Proof.RecordProofs

/-! ### The masks -/

theorem named_period (a : SetChannelArgs) : namedWrites 256 (channelWrites a) = some [.period a.period] := rfl

theorem named_floor (a : SetChannelArgs) : namedWrites 64 (channelWrites a) = some [.floor a.floor] := rfl

theorem named_mode {a : SetChannelArgs} {m : ChanMode} (h : chanModeOf a.mode = some m) :
    namedWrites 512 (channelWrites a) = some [.mode m] := by
  have hmasked : masked 512 0 (channelWrites a) = [(chanModeOf a.mode).map .mode] := rfl
  simp [namedWrites, hmasked, h]

theorem named_tolerance (d : SetDeviceArgs) :
    namedWrites 192 (deviceWrites d) = some [.easeTol d.easeTol, .haltExcess d.haltExcess] := rfl

/-! ### The commands -/

theorem clampStep_inside {lo hi step v : Nat} (hlo : lo ≤ v) (hhi : v ≤ hi) :
    clampStep lo hi step v = (v - v % step, decide (v % step ≠ 0)) := by
  unfold clampStep
  rw [if_neg (by omega), if_neg (by omega)]
  split
  · next h => simp [h]
  · next h =>
    have h0 : v % step = 0 := by simpa using h
    simp [h0]

theorem setChannelBody_named {s : State} {a : SetChannelArgs} {c : Chan} {ws : List ChannelWrite} (hc : a.channel = c.val)
    (hw : namedWrites a.mask (channelWrites a) = some ws) :
    s.setChannelBody a = if ws.contains (.mode .off) && (s.chan c).phaseHeld then .refused .state .none
      else .taken (writeAll (State.writeChannel c) ws s).1 (writeAll (State.writeChannel c) ws s).2 fun _ => .none := by
  have hchan : chanOf a.channel = some c := by simp [chanOf, hc]
  simp only [State.setChannelBody, hchan, hw]

theorem modChan_eq (s : State) (c : Chan) (f : Channel → Channel) : s.modChan c f = s.setChan c (f (s.chan c)) := rfl

/-- Settles O59: each mask names its writes, and each write is the one change of its channel or of the device settings. -/
theorem settingsWritten : Obligations.SettingsWritten := by
  intro t n c a d s hn hstore hmode hc
  have hrule := judge_notInFallback hmode
  have htaken := exec_taken (i := .setChannel t n a) rfl hn hstore hrule
  refine ⟨fun hmask hlive hlo hhi => ?_, fun hmask hm hoff hsurvey => ?_, fun hmask hm hheld => ?_, fun hmask => ?_,
    fun hmask htol hlt hhigh hbelow => ?_⟩
  · rw [htaken]
    simp only [portBody]
    rw [setChannelBody_named hc (hmask ▸ named_period a)]
    simp only [writeAll, State.writeChannel, State.writePeriod, clampStep_inside hlo hhi, modChan_eq, chan_begun,
      Channel.setPeriod, hlive]
    by_cases hstep : a.period % 50 = 0 <;> simp [Verdict.apply, hstep]
  · rw [htaken]
    simp only [portBody]
    rw [setChannelBody_named hc (hmask ▸ named_mode (m := .live) (by rw [hm]; rfl))]
    simp only [writeAll, State.writeChannel, State.writeMode, State.turnLive, chan_begun, hoff, hsurvey, modChan_eq, begun_now]
    rfl
  · have hany : ((s.begun t n).chan c).phaseHeld = true := by
      obtain ⟨q, hq⟩ := hheld
      rw [chan_begun]
      exact List.any_eq_true.mpr ⟨q, List.mem_finRange q, Option.isSome_iff_ne_none.mpr hq⟩
    rw [htaken]
    simp only [portBody]
    rw [setChannelBody_named hc (hmask ▸ named_mode (m := .off) (by rw [hm]; rfl)), hany]
    rfl
  · rw [htaken]
    simp only [portBody]
    rw [setChannelBody_named hc (hmask ▸ named_floor a)]
    simp only [writeAll, State.writeChannel, State.writeFloor, State.modConfig, modChan_eq, chan_begun]
    by_cases hfloor : a.floor ≤ 7
    · simp [Verdict.apply, hfloor, Nat.not_lt.mpr hfloor]
    · simp [Verdict.apply, hfloor, Nat.lt_of_not_le hfloor]
  · have hcap : d.easeTol ⊓ 50 = d.easeTol := Nat.min_eq_left htol
    have hkeep : s.device.haltExcess ⊔ (d.easeTol + 1) = s.device.haltExcess := Nat.max_eq_left hbelow
    have hstep : clampStep (d.easeTol + 1) 100 1 d.haltExcess = (d.haltExcess, false) := by
      rw [clampStep_inside hlt hhigh, Nat.mod_one]
      rfl
    rw [exec_taken (i := .setDevice t n d) rfl hn hstore hrule]
    simp only [portBody, State.setDeviceBody, hmask, named_tolerance, writeAll, State.writeDevice, State.writeEaseTol,
      State.modDevice, begun_device, hcap, hkeep, hstep, Verdict.apply]
    simp [Nat.not_lt.mpr htol, Nat.not_le.mpr hbelow]

end Sys2Proof.SettingsProofs
end

section
/-!
The entry into FALLBACK (R178): what the reload makes of each channel and of the device settings, and what follows it.
-/
namespace Sys2Proof.FallbackProofs
open Sys2Proof Sys2Proof.Machine Sys2Proof.Machine.Laws Sys2Proof.CommandProofs Sys2Proof.DeviceProofs
  Sys2Proof.PortProofs Sys2Proof.SlotProofs Sys2Proof.RecordProofs Sys2Proof.FloorProofs Sys2Proof.HaltProofs
  Sys2Proof.EvolveProofs Sys2Proof.CalmProofs Sys2Proof.EntryProofs Sys2Proof.EvolvesProofs Sys2Proof.SurveyProofs
  Sys2Proof.SampleProofs Sys2Proof.WriteProofs Sys2Proof.QuietProofs Sys2Proof.HostProofs Sys2Proof.SettingsProofs

/-! ### The write of one channel's settings -/

/-- R194: a channel's settings after a write of one of them, the period and the mode apart. -/
def configWritten (g : ChannelConfig) : ChannelWrite → ChannelConfig
  | .jamOn v => { g with jamOn := min v 63, jamOff := min g.jamOff (min v 63) }
  | .jamOff v => { g with jamOff := min v g.jamOn }
  | .blank v => { g with blank := (clampStep 5 200 1 v).1 }
  | .survey on => { g with survey := on }
  | .answerWindow v => { g with answerWindow := (clampStep 60 300 10 v).1 }
  | .talkWindow v => { g with talkWindow := (clampStep 2 30 1 v).1 }
  | .floor v => { g with floor := min v 7 }
  | .defaultArea x => { g with defaultArea := x }
  | .period _ => g
  | .mode _ => g

/-- The channel `ch` with other settings and another survey. -/
def Reconfigured (ch ch' : Channel) (g : ChannelConfig) : Prop := ∃ x, ch' = { ch with config := g, survey := x }

theorem Reconfigured.refl (ch : Channel) : Reconfigured ch ch ch.config := ⟨ch.survey, rfl⟩

theorem Reconfigured.trans {a b c : Channel} {g h : ChannelConfig} (hab : Reconfigured a b g) (hbc : Reconfigured b c h) : Reconfigured a c h := by
  obtain ⟨x, rfl⟩ := hab
  obtain ⟨y, rfl⟩ := hbc
  exact ⟨y, rfl⟩

theorem chan_startSurvey (s : State) (c : Chan) (ok : SurveyState) :
    (s.startSurvey c ok).chan c = started ok (s.chan c) := by
  rw [startSurvey_eq]
  split
  · rw [chan_attend, chan_modChan_self]
  · rw [chan_modChan_self]

theorem reconfigured_setBlank (s : State) (c : Chan) (v : Nat) :
    Reconfigured (s.chan c) ((s.setBlank c v).chan c) { (s.chan c).config with blank := v } := by
  unfold State.setBlank
  split
  · next h => exact ⟨(s.chan c).survey, by rw [← h]⟩
  · dsimp only
    split
    · exact ⟨(s.chan c).survey, by rw [State.modConfig, chan_modChan_self]⟩
    · exact ⟨_, by rw [chan_startSurvey, State.modConfig, chan_modChan_self]; rfl⟩

theorem reconfigured_setSurvey (s : State) (c : Chan) (on : Bool) :
    Reconfigured (s.chan c) ((s.setSurvey c on).chan c) { (s.chan c).config with survey := on } := by
  unfold State.setSurvey
  split
  · next h => exact ⟨(s.chan c).survey, by rw [← h]⟩
  · dsimp only
    split
    · split
      · exact ⟨_, by rw [chan_startSurvey, State.modConfig, chan_modChan_self]; rfl⟩
      · exact ⟨(s.chan c).survey, by rw [State.modConfig, chan_modChan_self]⟩
    · exact ⟨_, by rw [stopSurvey_eq, chan_modChan_self, State.modConfig, chan_modChan_self]; rfl⟩

/-- R194: whether a write is of a channel's settings proper. -/
def IsConfig (w : ChannelWrite) : Prop := (∀ v, w ≠ .period v) ∧ ∀ m, w ≠ .mode m

theorem reconfigured_writeChannel (s : State) (c : Chan) {w : ChannelWrite} (hw : IsConfig w) :
    Reconfigured (s.chan c) ((s.writeChannel c w).1.chan c) (configWritten (s.chan c).config w) := by
  have hmod : ∀ f, Reconfigured (s.chan c) ((s.modConfig c f).chan c) (f (s.chan c).config) := fun f =>
    ⟨(s.chan c).survey, by rw [State.modConfig, chan_modChan_self]⟩
  cases w with
  | jamOn v => exact hmod _
  | jamOff v => exact hmod _
  | blank v => exact reconfigured_setBlank s c _
  | survey on => exact reconfigured_setSurvey s c on
  | answerWindow v => exact hmod _
  | talkWindow v => exact hmod _
  | floor v => exact hmod _
  | defaultArea x => exact hmod _
  | period v => exact absurd rfl (hw.1 v)
  | mode m => exact absurd rfl (hw.2 m)

theorem reconfigured_writeAll (c : Chan) (l : List ChannelWrite) (hl : ∀ w ∈ l, IsConfig w) (s : State) :
    Reconfigured (s.chan c) ((writeAll (State.writeChannel c) l s).1.chan c) (l.foldl configWritten (s.chan c).config) := by
  induction l generalizing s with
  | nil => exact .refl _
  | cons w l ih =>
    have hfirst := reconfigured_writeChannel s c (hl w List.mem_cons_self)
    have hrest := ih (fun x hx => hl x (List.mem_cons_of_mem _ hx)) (s.writeChannel c w).1
    obtain ⟨x, hx⟩ := hfirst
    rw [hx] at hrest
    exact Reconfigured.trans ⟨x, rfl⟩ (by simpa [writeAll, hx] using hrest)

/-- R185: settings within their ranges are written as they are. -/
theorem configWrites_inRange {q g : ChannelConfig} (h : q.InRange) :
    [ChannelWrite.jamOn q.jamOn, .jamOff q.jamOff, .blank q.blank, .survey q.survey, .answerWindow q.answerWindow,
      .talkWindow q.talkWindow, .floor q.floor, .defaultArea q.defaultArea].foldl configWritten g = q := by
  obtain ⟨hansLow, hansHigh, hansStep, htalkLow, htalkHigh, hfloor, hblankLow, hblankHigh, hon, hoff⟩ := h
  have hans : (clampStep 60 300 10 q.answerWindow).1 = q.answerWindow := by
    rw [clampStep_inside hansLow hansHigh, hansStep, Nat.sub_zero]
  have htalk : (clampStep 2 30 1 q.talkWindow).1 = q.talkWindow := by
    rw [clampStep_inside htalkLow htalkHigh, Nat.mod_one, Nat.sub_zero]
  have hblank : (clampStep 5 200 1 q.blank).1 = q.blank := by
    rw [clampStep_inside hblankLow hblankHigh, Nat.mod_one, Nat.sub_zero]
  simp only [List.foldl_cons, List.foldl_nil, configWritten, hans, htalk, hblank, Nat.min_eq_left hon,
    Nat.min_eq_left hoff, Nat.min_eq_left hfloor]

/-! ### One channel's reload -/

theorem writeAll_append {α : Type} (w : α → State → State × Bool) (l l' : List α) (s : State) :
    (writeAll w (l ++ l') s).1 = (writeAll w l' (writeAll w l s).1).1 := by
  induction l generalizing s with
  | nil => rfl
  | cons x l ih => exact ih (w x s).1

/-- R178: what the reload of a channel makes of its settings at `now`. -/
structure Reloaded (now : Instant) (q : ChannelProfile) (ch ch' : Channel) : Prop where
  config : ch'.config = q.config
  mode : ch'.mode = if ch.mode = .live ∧ ∃ p, ch.occupancy.get p ≠ none then .live else q.mode
  live : ch.mode = .live → ch'.mode = .live → ch'.period = ch.period
    ∧ ch'.pendingPeriod = if q.period = ch.period then none else some q.period
  off : ch.mode = .off ∨ ch'.mode = .off → ch'.period = q.period ∧ ch'.pendingPeriod = none
  opened : ch.mode = .off → ch'.mode = .live → ch'.epoch = some now

theorem phaseHeld_iff {ch : Channel} : ch.phaseHeld = true ↔ ∃ p, ch.occupancy.get p ≠ none := by
  simp [Channel.phaseHeld, phases, List.any_eq_true, Option.isSome_iff_ne_none]

theorem chan_turnLive (s : State) (c : Chan) : ∃ x, (s.turnLive c).chan c = { s.chan c with
    mode := .live, epoch := some s.now, cycleStart := s.now, reached := 0, survey := x } := by
  unfold State.turnLive
  dsimp only
  split
  · exact ⟨_, by rw [chan_startSurvey, chan_modChan_self]; rfl⟩
  · exact ⟨(s.chan c).survey, by rw [chan_modChan_self]⟩

/-- R50 to R52: the mode is written after the period. -/
theorem reloaded_mode {s : State} {c : Chan} {q : ChannelProfile} {ch : Channel}
    (h : Reconfigured ch (s.chan c) q.config) :
    Reloaded s.now q ch (((s.modChan c fun ch => ch.setPeriod q.period).writeMode c q.mode).chan c) := by
  obtain ⟨x, hx⟩ := h
  obtain ⟨v, hv⟩ : ∃ v, v = s.modChan c fun ch => ch.setPeriod q.period := ⟨_, rfl⟩
  have hnow : v.now = s.now := by rw [hv]; rfl
  rw [← hv]
  cases hmode : ch.mode with
  | off =>
    have hchan : v.chan c = { ch with config := q.config, survey := x, period := q.period, pendingPeriod := none } := by
      rw [hv, chan_modChan_self, hx, Channel.setPeriod, hmode]
    have hvmode : (v.chan c).mode = .off := by rw [hchan]; exact hmode
    cases hq : q.mode with
    | off =>
      simp only [State.writeMode, hvmode]
      rw [hchan]
      exact ⟨rfl, by simp [hmode, hq], by simp [hmode], fun _ => ⟨rfl, rfl⟩, fun _ h => by simp [hmode] at h⟩
    | live =>
      obtain ⟨y, hy⟩ := chan_turnLive v c
      simp only [State.writeMode, hvmode]
      rw [hy, hchan, hnow]
      exact ⟨rfl, by simp [hmode, hq], by simp [hmode], fun _ => ⟨rfl, rfl⟩, fun _ _ => rfl⟩
  | live =>
    have hchan : v.chan c = { ch with
        config := q.config, survey := x, pendingPeriod := if q.period = ch.period then none else some q.period } := by
      rw [hv, chan_modChan_self, hx, Channel.setPeriod, hmode]
    have hvmode : (v.chan c).mode = .live := by rw [hchan]; exact hmode
    cases hq : q.mode with
    | live =>
      simp only [State.writeMode, hvmode]
      rw [hchan]
      exact ⟨rfl, by simp [hmode, hq], fun _ _ => ⟨rfl, rfl⟩, by simp [hmode], by simp [hmode]⟩
    | off =>
      simp only [State.writeMode, hvmode]
      by_cases hheld : ∃ p, ch.occupancy.get p ≠ none
      · have hvheld : (v.chan c).phaseHeld = true := by rw [hchan]; exact phaseHeld_iff.mpr hheld
        rw [if_pos hvheld, hchan]
        exact ⟨rfl, by simp only [hmode, true_and, if_pos hheld], fun _ _ => ⟨rfl, rfl⟩, by simp [hmode], by simp [hmode]⟩
      · have hvheld : ¬ (v.chan c).phaseHeld = true := fun h => hheld (by rw [hchan] at h; exact phaseHeld_iff.mp h)
        rw [if_neg hvheld, State.turnOff, stopSurvey_eq, chan_modChan_self, chan_modChan_self, hchan]
        refine ⟨rfl, ?_, fun _ h => ?_, fun _ => ⟨?_, rfl⟩, by simp [hmode]⟩
        · simp only [hmode, true_and, if_neg hheld, hq]
          rfl
        · cases h
        · by_cases hp : q.period = ch.period <;> simp [stopped, hp]

theorem reloaded_reloadChannel (s : State) (c : Chan) {p : Profile} (hc : (p.channels.get c).config.InRange)
    (hp : PeriodInRange (p.channels.get c).period) :
    Reloaded s.now (p.channels.get c) (s.chan c) ((s.reloadChannel p c).chan c) := by
  obtain ⟨q, hq⟩ : ∃ q, q = p.channels.get c := ⟨_, rfl⟩
  rw [← hq] at hc hp ⊢
  obtain ⟨l, hl⟩ : ∃ l, l = [ChannelWrite.jamOn q.config.jamOn, .jamOff q.config.jamOff, .blank q.config.blank,
    .survey q.config.survey, .answerWindow q.config.answerWindow, .talkWindow q.config.talkWindow, .floor q.config.floor,
    .defaultArea q.config.defaultArea] := ⟨_, rfl⟩
  obtain ⟨v, hv⟩ : ∃ v, v = (writeAll (State.writeChannel c) l s).1 := ⟨_, rfl⟩
  have hconfig : Reconfigured (s.chan c) (v.chan c) q.config := by
    have hall := reconfigured_writeAll c l (fun w hw => by
      rw [hl] at hw
      simp only [List.mem_cons, List.not_mem_nil, or_false] at hw
      rcases hw with rfl | rfl | rfl | rfl | rfl | rfl | rfl | rfl <;> exact ⟨nofun, nofun⟩) s
    rw [hl, configWrites_inRange hc, ← hl, ← hv] at hall
    exact hall
  have hnow : v.now = s.now := by
    have := writeChannels_host s c l
    simp only [hostPart, Prod.mk.injEq] at this
    rw [hv]
    exact this.1
  have hperiod : (clampStep 400 3200 50 q.period).1 = q.period := by
    obtain ⟨hlow, hhigh, hstep⟩ := hp
    rw [clampStep_inside hlow hhigh, hstep, Nat.sub_zero]
  have hsplit : q.writes = l ++ [.period q.period, .mode q.mode] := by rw [hl]; rfl
  have hreload : s.reloadChannel p c = (v.modChan c fun ch => ch.setPeriod q.period).writeMode c q.mode := by
    rw [State.reloadChannel, ← hq, hsplit, writeAll_append, ← hv]
    simp only [writeAll, State.writeChannel, State.writePeriod, hperiod]
  rw [hreload, ← hnow]
  exact reloaded_mode hconfig

/-! ### The reload of the channels -/

theorem chan_startSurvey_ne (s : State) {c d : Chan} (ok : SurveyState) (h : d ≠ c) :
    (s.startSurvey c ok).chan d = s.chan d := by
  rw [startSurvey_eq]
  split
  · rw [chan_attend, chan_modChan_ne _ _ (Ne.symm h)]
  · rw [chan_modChan_ne _ _ (Ne.symm h)]

theorem chan_turnLive_ne (s : State) {c d : Chan} (h : d ≠ c) : (s.turnLive c).chan d = s.chan d := by
  unfold State.turnLive
  dsimp only
  split
  · rw [chan_startSurvey_ne _ _ h, chan_modChan_ne _ _ (Ne.symm h)]
  · rw [chan_modChan_ne _ _ (Ne.symm h)]

theorem chan_writeChannel_ne (s : State) {c d : Chan} (w : ChannelWrite) (h : d ≠ c) :
    (s.writeChannel c w).1.chan d = s.chan d := by
  have hmod : ∀ (u : State) f, (u.modChan c f).chan d = u.chan d := fun u f => chan_modChan_ne u f (Ne.symm h)
  cases w with
  | jamOn v => exact hmod s _
  | jamOff v => exact hmod s _
  | blank v =>
    show (s.setBlank c _).chan d = _
    unfold State.setBlank
    split
    · rfl
    · dsimp only
      split
      · exact hmod s _
      · rw [chan_startSurvey_ne _ _ h]; exact hmod s _
  | survey on =>
    show (s.setSurvey c on).chan d = _
    unfold State.setSurvey
    split
    · rfl
    · dsimp only
      split
      · split
        · rw [chan_startSurvey_ne _ _ h]; exact hmod s _
        · exact hmod s _
      · rw [stopSurvey_eq, hmod]; exact hmod s _
  | answerWindow v => exact hmod s _
  | talkWindow v => exact hmod s _
  | floor v => exact hmod s _
  | defaultArea x => exact hmod s _
  | period v => exact hmod s _
  | mode m =>
    show (s.writeMode c m).chan d = _
    unfold State.writeMode
    split
    · rfl
    · rfl
    · exact chan_turnLive_ne s h
    · split
      · rfl
      · rw [State.turnOff, stopSurvey_eq, hmod, hmod]

theorem chan_reloadChannel_ne (p : Profile) (s : State) {c d : Chan} (h : d ≠ c) :
    (s.reloadChannel p c).chan d = s.chan d :=
  writeAll_keeps (P := fun u => u.chan d = s.chan d) (fun w u hu => (chan_writeChannel_ne u w h).trans hu) _ rfl

theorem now_reloadChannel (p : Profile) (s : State) (c : Chan) : (s.reloadChannel p c).now = s.now := by
  have := reloadChannel_host p s c
  simp only [hostPart, Prod.mk.injEq] at this
  exact this.1

theorem chan_reloadChannels_ne (p : Profile) (l : List Chan) (s : State) {d : Chan} (h : d ∉ l) :
    (l.foldl (State.reloadChannel p) s).chan d = s.chan d := by
  induction l generalizing s with
  | nil => rfl
  | cons c l ih =>
    rw [List.foldl_cons, ih _ fun hd => h (List.mem_cons_of_mem _ hd),
      chan_reloadChannel_ne p s fun hdc : d = c => h (hdc ▸ List.mem_cons_self)]

theorem reloaded_channels {p : Profile} (hp : p.InRange) (l : List Chan) (hl : l.Nodup) (s : State) {c : Chan} (hc : c ∈ l) :
    Reloaded s.now (p.channels.get c) (s.chan c) ((l.foldl (State.reloadChannel p) s).chan c) := by
  induction l generalizing s with
  | nil => cases hc
  | cons d l ih =>
    obtain ⟨hd, hl⟩ := List.nodup_cons.mp hl
    rw [List.foldl_cons]
    by_cases hcd : c = d
    · subst hcd
      rw [chan_reloadChannels_ne p l _ hd]
      exact reloaded_reloadChannel s c (hp.1 c).1 (hp.1 c).2
    · have := ih hl (s.reloadChannel p d) ((List.mem_cons.mp hc).resolve_left hcd)
      rwa [chan_reloadChannel_ne p s hcd, now_reloadChannel] at this

/-! ### The reload of the device settings -/

/-- R195: the device settings after a write of one of them. -/
def deviceWritten (d : DeviceSettings) : DeviceWrite → DeviceSettings
  | .warn v => { d with warn := (clampStep 1 6 1 v).1 }
  | .regExpiry v => { d with regExpiry := (clampStep 10 600 1 v).1 }
  | .joinTimeout v => { d with joinTimeout := (clampStep 5 30 1 v).1 }
  | .ackTimeout v => { d with ackTimeout := (clampStep 500 4000 10 v).1 }
  | .moveWindow v => { d with moveWindow := (clampStep 2 20 1 v).1 }
  | .bandShift v => { d with bandShift := (clampStep 4 10 1 v).1 }
  | .easeTol v => { d with easeTol := min v 50, haltExcess := max d.haltExcess (min v 50 + 1) }
  | .haltExcess v => { d with haltExcess := (clampStep (d.easeTol + 1) 100 1 v).1 }
  | .silence v => { d with silence := (silenceOf v).1 }
  | .startup v => { d with startup := (clampStep 0 60 1 v).1 }
  | .policy p => { d with policy := p }

theorem device_setWarn (s : State) (v : Nat) : (s.setWarn v).device = { s.device with warn := v } := by
  unfold State.setWarn
  split
  · next h => rw [← h]
  · dsimp only
    rw [foldl_device judgeWarn_device,
      foldl_device (f := State.markCrossed s.device.warn v) fun u i => device_of_host (markCrossed_host u _ _ i)]
    rfl

theorem device_setRegExpiry (s : State) (v : Nat) : (s.setRegExpiry v).device = { s.device with regExpiry := v } := by
  unfold State.setRegExpiry
  split
  · next h => rw [← h]
  · rfl

theorem device_writeDevice (s : State) (w : DeviceWrite) : (s.writeDevice w).1.device = deviceWritten s.device w := by
  cases w with
  | warn v => exact device_setWarn s _
  | regExpiry v => exact device_setRegExpiry s _
  | _ => rfl

theorem device_writeAll (l : List DeviceWrite) (s : State) :
    (writeAll State.writeDevice l s).1.device = l.foldl deviceWritten s.device := by
  induction l generalizing s with
  | nil => rfl
  | cons w l ih =>
    rw [List.foldl_cons, ← device_writeDevice]
    exact ih _

theorem silenceOf_getD {x : Option Nat} (h : ∀ m, x = some m → m ≤ 7) : (silenceOf (x.getD 255)).1 = x := by
  cases x with
  | none => rfl
  | some m =>
    have hm := h m rfl
    simp only [silenceOf, Option.getD_some]
    rw [if_neg (by omega), if_neg (by omega)]

/-- R178, R185: device settings within their ranges are taken as they are, the curve apart. -/
theorem deviceWrites_inRange {d e : DeviceSettings} (h : d.InRange) :
    d.writes.foldl deviceWritten e = { d with curve := e.curve } := by
  obtain ⟨hwarn, hwarn', hreg, hreg', hjoin, hjoin', hack, hack', hackStep, hmove, hmove', hband, hband', htol, hlt, hexcess,
    hsilence, hstartup, -⟩ := h
  have hone : ∀ {lo hi v : Nat}, lo ≤ v → v ≤ hi → (clampStep lo hi 1 v).1 = v := fun hlo hhi => by
    rw [clampStep_inside hlo hhi, Nat.mod_one, Nat.sub_zero]
  have hten : (clampStep 500 4000 10 d.ackTimeout).1 = d.ackTimeout := by
    rw [clampStep_inside hack hack', hackStep, Nat.sub_zero]
  simp only [DeviceSettings.writes, List.foldl_cons, List.foldl_nil, deviceWritten, hone hwarn hwarn', hone hreg hreg',
    hone hjoin hjoin', hten, hone hmove hmove', hone hband hband', Nat.min_eq_left htol, hone hlt hexcess,
    silenceOf_getD hsilence, hone (Nat.zero_le _) hstartup]

theorem judgeWarn_chans (s : State) (i : SlotId) : (s.judgeWarn i).chans = s.chans := by
  cases hg : s.group i with
  | none => rw [judgeWarn_free hg]
  | some g => rw [judgeWarn_eq hg]; rfl

/-- R195: a write of a device setting leaves the channels. -/
theorem chans_writeDevice (s : State) (w : DeviceWrite) : (s.writeDevice w).1.chans = s.chans := by
  have hfold : ∀ {f : State → SlotId → State}, (∀ u i, (f u i).chans = u.chans) → ∀ (l : List SlotId) (u : State),
      (l.foldl f u).chans = u.chans := fun {f} hf l => by
    induction l with
    | nil => exact fun _ => rfl
    | cons i l ih => exact fun u => (ih _).trans (hf u i)
  cases w with
  | warn v =>
    show (s.setWarn _).chans = _
    unfold State.setWarn
    split
    · rfl
    · dsimp only
      rw [hfold (f := fun u i => u.judgeWarn i) fun u i => judgeWarn_chans u i,
        hfold (f := State.markCrossed s.device.warn (clampStep 1 6 1 v).1) fun u i => ?_]
      · rfl
      · unfold State.markCrossed
        split
        · rfl
        · split <;> rfl
  | regExpiry v =>
    show (s.setRegExpiry _).chans = _
    unfold State.setRegExpiry
    split <;> rfl
  | _ => rfl

/-! ### The reload -/

theorem chan_reload (p : Profile) (s : State) (c : Chan) :
    (s.reload p).chan c = (channels.foldl (State.reloadChannel p) s).chan c := by
  unfold State.reload
  dsimp only
  generalize channels.foldl (State.reloadChannel p) s = v
  have hchans : (writeAll State.writeDevice p.device.writes v).1.chans = v.chans :=
    writeAll_keeps (P := fun u => u.chans = v.chans) (fun w u hu => (chans_writeDevice u w).trans hu) _ rfl
  generalize (writeAll State.writeDevice p.device.writes v).1 = w at hchans
  exact chan_congr (s' := { w.modDevice _ with pairings := p.heldPairings }) hchans c

theorem reloaded_reload {p : Profile} (hp : p.InRange) (s : State) (c : Chan) :
    Reloaded s.now (p.channels.get c) (s.chan c) ((s.reload p).chan c) := by
  rw [chan_reload]
  exact reloaded_channels hp channels (List.nodup_finRange 8) s (List.mem_finRange c)

theorem device_reload {p : Profile} (hp : p.InRange) (s : State) : (s.reload p).device = p.device := by
  unfold State.reload
  dsimp only
  generalize channels.foldl (State.reloadChannel p) s = v
  have hdevice := (device_writeAll p.device.writes v).trans (deviceWrites_inRange hp.2)
  generalize (writeAll State.writeDevice p.device.writes v).1 = w at hdevice
  simp only [State.modDevice, hdevice]

theorem pairings_reload (p : Profile) (s : State) (k : PairingId) :
    (s.reload p).pairings.get k = { pairing := p.pairings.get k, held := false } := by
  show p.heldPairings.get k = _
  simp [Profile.heldPairings]

/-! ### What a stop leaves -/

/-- R31, R181: the attention set and the standing pairings, which no stop of a group touches. -/
def shelf (s : State) : List AttnItem × Vector HeldPairing 8 := (s.attention, s.pairings)

theorem shelf_endGrant (s : State) (c : Chan) : shelf (s.endGrant c) = shelf s := by
  rcases endGrant_cases s c with ⟨-, he⟩ | ⟨h, -, he⟩ | ⟨h, q₁, x, q₂, j, role, g, -, -, -, -, -, -, -, -, he⟩ <;> rw [he]
  · rfl
  · rw [refresh_eq_setSlot]
    rfl

theorem shelf_dropOrder (s : State) (i : SlotId) : shelf (s.dropOrder i) = shelf s := by
  unfold State.dropOrder
  split
  · rfl
  · split
    · rfl
    · simp [shelf]

theorem shelf_discardOrder (s : State) (i : SlotId) : shelf (s.discardOrder i) = shelf s := by
  have htold : ∀ (u : State) n, shelf (u.toLeader i n) = shelf u := fun u n => by simp [shelf]
  unfold State.discardOrder
  split
  · rfl
  · split
    · rfl
    · rw [htold, shelf_dropOrder]

theorem shelf_dropApproach (s : State) (i : SlotId) : shelf (s.dropApproach i) = shelf s := by
  unfold State.dropApproach
  split
  · rfl
  · split
    · rfl
    · simp [shelf]

theorem shelf_cancelJoin (s : State) (i : SlotId) (b : Bool) : shelf (s.cancelJoin i b) = shelf s := by
  have hunpin : ∀ (u : State) r, shelf (u.unpin r) = shelf u := fun u r => by
    unfold State.unpin
    split
    · rfl
    · split <;> rfl
  have hnotice : ∀ (u : State) r n k, shelf (u.noticeToEntry r n k) = shelf u := fun u r n k => by
    unfold State.noticeToEntry
    split
    · rfl
    · simp [shelf]
  have hmark : ∀ u : State, shelf (u.mark i) = shelf u := fun _ => rfl
  unfold State.cancelJoin
  split
  · rfl
  · split
    · rfl
    · rw [hmark, hunpin, hnotice]
      simp [shelf]

theorem shelf_haltBeat (s : State) (i : SlotId) : shelf (s.haltBeat i) = shelf s := by
  unfold State.haltBeat State.oldChannelHalt
  split
  · rfl
  · split
    · simp [shelf]
    · split <;> simp [shelf]

theorem shelf_addCause (s : State) (i : SlotId) (c : Cause) : shelf (s.addCause i c) = shelf s := by
  have hmod : ∀ (u : State) f, shelf (u.modGroup i f) = shelf u := fun u f => by simp [shelf]
  have hmark : ∀ u : State, shelf (u.mark i) = shelf u := fun _ => rfl
  have hhalt : ∀ u : State, shelf (u.enterHalt i) = shelf u := fun u => by
    cases hg : u.group i with
    | none => rw [State.enterHalt, hg]
    | some g =>
      have hgrounded : shelf (grounded u i g.radios) = shelf u := by
        refine withdrawGroup_keeps (P := fun w => shelf w = shelf u) (fun w d hw => (shelf_endGrant w d).trans hw) _ _ ?_
        rw [shelf_cancelJoin, shelf_dropApproach, shelf_discardOrder, hmark, hmod]
      rw [enterHalt_eq hg, State.toLeader, State.groupNotice, hmod, shelf_haltBeat, hgrounded]
  unfold State.addCause State.addCauses
  split
  · rfl
  · split
    · rfl
    · dsimp only
      split
      · rw [hhalt, hmark, hmod]
      · rw [hmark, hmod]

theorem shelf_controlAll (s : State) : shelf s.controlAll = shelf s := by
  unfold State.controlAll
  generalize slotIds = l
  induction l generalizing s with
  | nil => rfl
  | cons i l ih => rw [List.foldl_cons, ih, shelf_addCause]

theorem calm_controlAll (s : State) : Calm noSlot noHolder s s.controlAll :=
  .foldl (f := fun s i => s.addCause i .control) (fun s i => calm_addCause s i (by simp)) slotIds s

/-- R97, R178: what follows the reload keeps of it. -/
structure Followed (defaulted : Bool) (s u : State) : Prop where
  core : SameCore s u
  device : u.device = s.device
  pairings : u.pairings = s.pairings
  fallback : AttnItem.fallback ∈ u.attention
  defaulted : defaulted = true → AttnItem.profileDefaulted ∈ u.attention
  examine : u.examine = true
  control : s.device.policy = .haltAll → ∀ i g, u.group i = some g → g.causes.control = true

theorem followed_afterReload (b : Bool) (s : State) : Followed b s (afterReload b s) := by
  obtain ⟨v, hv⟩ : ∃ v, v = if b = true then s.attend .profileDefaulted else s := ⟨_, rfl⟩
  have hchans : v.chans = s.chans := by rw [hv]; split <;> rfl
  have hdevice : v.device = s.device := by rw [hv]; split <;> rfl
  have hpairings : v.pairings = s.pairings := by rw [hv]; split <;> rfl
  have hitem : b = true → AttnItem.profileDefaulted ∈ v.attention := fun h => by
    rw [hv, if_pos h]
    exact AttentionProofs.mem_attnAdd.mpr (.inl rfl)
  obtain ⟨w, hw⟩ : ∃ w, w = if v.device.policy = .haltAll then v.controlAll else v := ⟨_, rfl⟩
  have hcore : SameCore v w := by
    rw [hw]
    split
    · exact sameCore_of_calm (calm_controlAll v)
    · exact .refl v
  have hshelf : shelf w = shelf v := by
    rw [hw]
    split
    · exact shelf_controlAll v
    · rfl
  obtain ⟨hattention, hpair⟩ := Prod.mk.inj hshelf
  have hwdevice : w.device = v.device := by
    rw [hw]
    split
    · exact device_of_host (controlAll_host v)
    · rfl
  have hdef : afterReload b s = { w.attend .fallback with examine := true } := by rw [hw, hv]; rfl
  rw [hdef]
  refine ⟨(sameCore_of_chans hchans).trans hcore, hwdevice.trans hdevice, hpair.trans hpairings,
    AttentionProofs.mem_attnAdd.mpr (.inl rfl), fun h => AttentionProofs.mem_attnAdd.mpr (.inr ?_), rfl,
    fun hpolicy i g hg => ?_⟩
  · rw [hattention]
    exact hitem h
  · have hgw : w.group i = some g := hg
    rw [hw, if_pos (by rw [hdevice]; exact hpolicy)] at hgw
    obtain ⟨g₀, hg₀, -⟩ := (calm_controlAll v).still.own i g hgw
    obtain ⟨g₁, hg₁, hcontrol, -⟩ := group_controlAll hg₀
    rw [hgw] at hg₁
    exact Option.some.inj hg₁ ▸ hcontrol

/-! ### The entry -/

/-- R172, R173: each expiry, reached in its mode, enters FALLBACK. -/
theorem exec_expiry {t : Instant} {s : State} {cmd : Instr}
    (h : (cmd = .startupTimerExpiry t ∧ s.mode = .startup ∧ ∃ e, s.startupExpiry = some e ∧ e ≤ max s.now t)
      ∨ (cmd = .hostSilenceExpiry t ∧ s.mode = .operate ∧ ∃ m x, s.device.silence = some m ∧ s.silenceSince = some x
          ∧ x + 250 * 2 ^ m ≤ max s.now t)) :
    exec cmd s = .next (s.tick t).enterFallback.finish := by
  rcases h with ⟨rfl, hmode, e, he, hdue⟩ | ⟨rfl, hmode, m, x, hm, hx, hdue⟩
  · have hany : (s.tick t).mode = .startup ∧ (s.tick t).startupExpiry.any (fun e => e ≤ (s.tick t).now) = true :=
      ⟨hmode, by
        have he' : (s.tick t).startupExpiry = some e := he
        rw [he']
        exact decide_eq_true hdue⟩
    exact exec_event_eq (f := fun s => s.startupExpires) rfl (if_pos hany)
  · have hany : (s.tick t).mode = .operate ∧ (s.tick t).silent = true := by
      have hm' : (s.tick t).device.silence = some m := hm
      have hx' : (s.tick t).silenceSince = some x := hx
      exact ⟨hmode, by simp only [State.silent, hm', hx']; exact decide_eq_true hdue⟩
    exact exec_event_eq (f := fun s => s.silenceExpires) rfl (if_pos hany)

/-- Settles O48: the channels are reloaded one by one, the device settings after them, and what follows keeps both. -/
theorem fallbackEntered : Obligations.FallbackEntered := by
  intro t p s hsource hp cmd hcmd
  obtain ⟨v, hv⟩ : ∃ v, v = inFallback (s.tick t) := ⟨_, rfl⟩
  have hreloaded : (s.tick t).reloadSource = p := by
    have hstoring : (s.tick t).storing = s.storing := rfl
    rcases hsource with h | ⟨h, rfl⟩
    · simp only [State.reloadSource, hstoring, h]
    · simp only [State.reloadSource, hstoring, h]
      rfl
  have hentered : (s.tick t).enterFallback = afterReload (s.tick t).defaults (v.reload p) := by
    rw [enterFallback_eq, hreloaded, hv]
  have hclock := enterFallback_clock (s.tick t)
  simp only [clockPart, Prod.mk.injEq] at hclock
  obtain ⟨-, hmode, hstartup, hsilence, -⟩ := hclock
  have hfollowed := followed_afterReload (s.tick t).defaults (v.reload p)
  rw [← hentered] at hfollowed
  have hdevice := device_reload hp v
  have hvchan : ∀ c, v.chan c = s.chan c := fun c => by rw [hv]; rfl
  have hvnow : v.now = max s.now t := by rw [hv]; rfl
  refine ⟨_, exec_expiry hcmd, hmode, hstartup, hsilence, hfollowed.device.trans hdevice, fun k => ?_, fun c => ?_,
    hfollowed.fallback, hfollowed.examine, fun hnone hinvalid => hfollowed.defaulted ?_, fun hpolicy =>
      hfollowed.control (by rw [hdevice]; exact hpolicy)⟩
  · rw [hfollowed.pairings]
    exact pairings_reload p v k
  · obtain ⟨hcmode, -, hepoch, -, -, hperiod, hpending, hconfig, -⟩ := core_fields (hfollowed.core c)
    obtain ⟨hrconfig, hrmode, hrlive, hroff, hropened⟩ := reloaded_reload hp v c
    rw [hcmode, hepoch, hperiod, hpending, hconfig]
    rw [hvchan] at hrmode hrlive hroff hropened
    rw [hvnow] at hropened
    exact ⟨hrconfig, hrmode, hrlive, hroff, hropened⟩
  · simp [State.defaults, hnone, hinvalid]

end Sys2Proof.FallbackProofs
end
